-- ==== Sys2Proof/Word.lean ====
section
/-! DEFINITION. The machine's two word types: the byte (every register but PC, every bus datum: R7, R70) and the 16-bit
address (PC and every effective address: R7, R50). Arithmetic on them is BitVec arithmetic, which wraps modulo 256 and
65536 as R12 and R164 ask. -/

namespace Sys2Proof

/-- A byte, 0..255 (R7: width of A, X, Y, SP, P and of every bus access). -/
abbrev Byte := BitVec 8

/-- A 16-bit address, 0x0000..0xFFFF (R7, R50). -/
abbrev Addr := BitVec 16

end Sys2Proof
end

