-- ==== Sys2Proof/Syntax.lean ====
section
/-! DEFINITION. The instructions as syntax: one constructor for each of the 151 documented rows of the opcode table (R98), with
its operand bytes assembled (R93, R94), and one for the `INVALID` rows, which carries the opcode byte (R100, R104; log 34). The
mnemonic and the format of each are the table's own columns (R91, R98). -/

namespace Sys2Proof

/-- The 56 mnemonics of R98 and `INVALID`, as the opcode table spells them. -/
inductive Mnemonic where
  | LDA | LDX | LDY | STA | STX | STY | TAX | TAY | TXA | TYA | TSX | TXS | ADC | SBC | CMP | CPX | CPY | AND | ORA
  | EOR | BIT | ASL | LSR | ROL | ROR | INC | DEC | INX | INY | DEX | DEY | BCC | BCS | BEQ | BMI | BNE | BPL | BVC
  | BVS | JMP | JSR | RTS | PHA | PLA | PHP | PLP | CLC | SEC | CLI | SEI | CLD | SED | CLV | NOP | BRK | RTI
  | INVALID
  deriving DecidableEq, Repr

/-- The thirteen formats (R91). -/
inductive Format where
  | imp | acc | imm | zp | zpx | zpy | abs | absx | absy | ind | indx | indy | rel
  deriving DecidableEq, Repr

/-- The instructions. An 8-bit operand is the byte after the opcode as it stands; a 16-bit operand is the word of the two
bytes after it (R93); a branch holds its displacement byte (R94). -/
inductive Instr where
  -- Loads, stores, transfers (R131 to R142)
  /-- LDA immediate, opcode A9 (R131). -/
  | ldaImm (v : Byte)
  /-- LDA zero-page, opcode A5 (R131). -/
  | ldaZp (b : Byte)
  /-- LDA zero-page,X, opcode B5 (R131). -/
  | ldaZpx (b : Byte)
  /-- LDA absolute, opcode AD (R131). -/
  | ldaAbs (w : Addr)
  /-- LDA absolute,X, opcode BD (R131). -/
  | ldaAbsx (w : Addr)
  /-- LDA absolute,Y, opcode B9 (R131). -/
  | ldaAbsy (w : Addr)
  /-- LDA (zp,X), opcode A1 (R131). -/
  | ldaIndx (b : Byte)
  /-- LDA (zp),Y, opcode B1 (R131). -/
  | ldaIndy (b : Byte)
  /-- LDX immediate, opcode A2 (R132). -/
  | ldxImm (v : Byte)
  /-- LDX zero-page, opcode A6 (R132). -/
  | ldxZp (b : Byte)
  /-- LDX zero-page,Y, opcode B6 (R132). -/
  | ldxZpy (b : Byte)
  /-- LDX absolute, opcode AE (R132). -/
  | ldxAbs (w : Addr)
  /-- LDX absolute,Y, opcode BE (R132). -/
  | ldxAbsy (w : Addr)
  /-- LDY immediate, opcode A0 (R133). -/
  | ldyImm (v : Byte)
  /-- LDY zero-page, opcode A4 (R133). -/
  | ldyZp (b : Byte)
  /-- LDY zero-page,X, opcode B4 (R133). -/
  | ldyZpx (b : Byte)
  /-- LDY absolute, opcode AC (R133). -/
  | ldyAbs (w : Addr)
  /-- LDY absolute,X, opcode BC (R133). -/
  | ldyAbsx (w : Addr)
  /-- STA zero-page, opcode 85 (R134). -/
  | staZp (b : Byte)
  /-- STA zero-page,X, opcode 95 (R134). -/
  | staZpx (b : Byte)
  /-- STA absolute, opcode 8D (R134). -/
  | staAbs (w : Addr)
  /-- STA absolute,X, opcode 9D (R134). -/
  | staAbsx (w : Addr)
  /-- STA absolute,Y, opcode 99 (R134). -/
  | staAbsy (w : Addr)
  /-- STA (zp,X), opcode 81 (R134). -/
  | staIndx (b : Byte)
  /-- STA (zp),Y, opcode 91 (R134). -/
  | staIndy (b : Byte)
  /-- STX zero-page, opcode 86 (R135). -/
  | stxZp (b : Byte)
  /-- STX zero-page,Y, opcode 96 (R135). -/
  | stxZpy (b : Byte)
  /-- STX absolute, opcode 8E (R135). -/
  | stxAbs (w : Addr)
  /-- STY zero-page, opcode 84 (R136). -/
  | styZp (b : Byte)
  /-- STY zero-page,X, opcode 94 (R136). -/
  | styZpx (b : Byte)
  /-- STY absolute, opcode 8C (R136). -/
  | styAbs (w : Addr)
  /-- TAX implied, opcode AA (R137). -/
  | tax
  /-- TAY implied, opcode A8 (R138). -/
  | tay
  /-- TXA implied, opcode 8A (R139). -/
  | txa
  /-- TYA implied, opcode 98 (R140). -/
  | tya
  /-- TSX implied, opcode BA (R141). -/
  | tsx
  /-- TXS implied, opcode 9A (R142). -/
  | txs
  -- Arithmetic and compare (R153, R156, R160 to R162)
  /-- ADC immediate, opcode 69 (R153). -/
  | adcImm (v : Byte)
  /-- ADC zero-page, opcode 65 (R153). -/
  | adcZp (b : Byte)
  /-- ADC zero-page,X, opcode 75 (R153). -/
  | adcZpx (b : Byte)
  /-- ADC absolute, opcode 6D (R153). -/
  | adcAbs (w : Addr)
  /-- ADC absolute,X, opcode 7D (R153). -/
  | adcAbsx (w : Addr)
  /-- ADC absolute,Y, opcode 79 (R153). -/
  | adcAbsy (w : Addr)
  /-- ADC (zp,X), opcode 61 (R153). -/
  | adcIndx (b : Byte)
  /-- ADC (zp),Y, opcode 71 (R153). -/
  | adcIndy (b : Byte)
  /-- SBC immediate, opcode E9 (R156). -/
  | sbcImm (v : Byte)
  /-- SBC zero-page, opcode E5 (R156). -/
  | sbcZp (b : Byte)
  /-- SBC zero-page,X, opcode F5 (R156). -/
  | sbcZpx (b : Byte)
  /-- SBC absolute, opcode ED (R156). -/
  | sbcAbs (w : Addr)
  /-- SBC absolute,X, opcode FD (R156). -/
  | sbcAbsx (w : Addr)
  /-- SBC absolute,Y, opcode F9 (R156). -/
  | sbcAbsy (w : Addr)
  /-- SBC (zp,X), opcode E1 (R156). -/
  | sbcIndx (b : Byte)
  /-- SBC (zp),Y, opcode F1 (R156). -/
  | sbcIndy (b : Byte)
  /-- CMP immediate, opcode C9 (R160). -/
  | cmpImm (v : Byte)
  /-- CMP zero-page, opcode C5 (R160). -/
  | cmpZp (b : Byte)
  /-- CMP zero-page,X, opcode D5 (R160). -/
  | cmpZpx (b : Byte)
  /-- CMP absolute, opcode CD (R160). -/
  | cmpAbs (w : Addr)
  /-- CMP absolute,X, opcode DD (R160). -/
  | cmpAbsx (w : Addr)
  /-- CMP absolute,Y, opcode D9 (R160). -/
  | cmpAbsy (w : Addr)
  /-- CMP (zp,X), opcode C1 (R160). -/
  | cmpIndx (b : Byte)
  /-- CMP (zp),Y, opcode D1 (R160). -/
  | cmpIndy (b : Byte)
  /-- CPX immediate, opcode E0 (R161). -/
  | cpxImm (v : Byte)
  /-- CPX zero-page, opcode E4 (R161). -/
  | cpxZp (b : Byte)
  /-- CPX absolute, opcode EC (R161). -/
  | cpxAbs (w : Addr)
  /-- CPY immediate, opcode C0 (R162). -/
  | cpyImm (v : Byte)
  /-- CPY zero-page, opcode C4 (R162). -/
  | cpyZp (b : Byte)
  /-- CPY absolute, opcode CC (R162). -/
  | cpyAbs (w : Addr)
  -- Logic, bit test, shifts and rotates (R171 to R179)
  /-- AND immediate, opcode 29 (R171). -/
  | andImm (v : Byte)
  /-- AND zero-page, opcode 25 (R171). -/
  | andZp (b : Byte)
  /-- AND zero-page,X, opcode 35 (R171). -/
  | andZpx (b : Byte)
  /-- AND absolute, opcode 2D (R171). -/
  | andAbs (w : Addr)
  /-- AND absolute,X, opcode 3D (R171). -/
  | andAbsx (w : Addr)
  /-- AND absolute,Y, opcode 39 (R171). -/
  | andAbsy (w : Addr)
  /-- AND (zp,X), opcode 21 (R171). -/
  | andIndx (b : Byte)
  /-- AND (zp),Y, opcode 31 (R171). -/
  | andIndy (b : Byte)
  /-- ORA immediate, opcode 09 (R172). -/
  | oraImm (v : Byte)
  /-- ORA zero-page, opcode 05 (R172). -/
  | oraZp (b : Byte)
  /-- ORA zero-page,X, opcode 15 (R172). -/
  | oraZpx (b : Byte)
  /-- ORA absolute, opcode 0D (R172). -/
  | oraAbs (w : Addr)
  /-- ORA absolute,X, opcode 1D (R172). -/
  | oraAbsx (w : Addr)
  /-- ORA absolute,Y, opcode 19 (R172). -/
  | oraAbsy (w : Addr)
  /-- ORA (zp,X), opcode 01 (R172). -/
  | oraIndx (b : Byte)
  /-- ORA (zp),Y, opcode 11 (R172). -/
  | oraIndy (b : Byte)
  /-- EOR immediate, opcode 49 (R173). -/
  | eorImm (v : Byte)
  /-- EOR zero-page, opcode 45 (R173). -/
  | eorZp (b : Byte)
  /-- EOR zero-page,X, opcode 55 (R173). -/
  | eorZpx (b : Byte)
  /-- EOR absolute, opcode 4D (R173). -/
  | eorAbs (w : Addr)
  /-- EOR absolute,X, opcode 5D (R173). -/
  | eorAbsx (w : Addr)
  /-- EOR absolute,Y, opcode 59 (R173). -/
  | eorAbsy (w : Addr)
  /-- EOR (zp,X), opcode 41 (R173). -/
  | eorIndx (b : Byte)
  /-- EOR (zp),Y, opcode 51 (R173). -/
  | eorIndy (b : Byte)
  /-- BIT zero-page, opcode 24 (R174). -/
  | bitZp (b : Byte)
  /-- BIT absolute, opcode 2C (R174). -/
  | bitAbs (w : Addr)
  /-- ASL accumulator, opcode 0A (R176). -/
  | aslAcc
  /-- ASL zero-page, opcode 06 (R176). -/
  | aslZp (b : Byte)
  /-- ASL zero-page,X, opcode 16 (R176). -/
  | aslZpx (b : Byte)
  /-- ASL absolute, opcode 0E (R176). -/
  | aslAbs (w : Addr)
  /-- ASL absolute,X, opcode 1E (R176). -/
  | aslAbsx (w : Addr)
  /-- LSR accumulator, opcode 4A (R177). -/
  | lsrAcc
  /-- LSR zero-page, opcode 46 (R177). -/
  | lsrZp (b : Byte)
  /-- LSR zero-page,X, opcode 56 (R177). -/
  | lsrZpx (b : Byte)
  /-- LSR absolute, opcode 4E (R177). -/
  | lsrAbs (w : Addr)
  /-- LSR absolute,X, opcode 5E (R177). -/
  | lsrAbsx (w : Addr)
  /-- ROL accumulator, opcode 2A (R178). -/
  | rolAcc
  /-- ROL zero-page, opcode 26 (R178). -/
  | rolZp (b : Byte)
  /-- ROL zero-page,X, opcode 36 (R178). -/
  | rolZpx (b : Byte)
  /-- ROL absolute, opcode 2E (R178). -/
  | rolAbs (w : Addr)
  /-- ROL absolute,X, opcode 3E (R178). -/
  | rolAbsx (w : Addr)
  /-- ROR accumulator, opcode 6A (R179). -/
  | rorAcc
  /-- ROR zero-page, opcode 66 (R179). -/
  | rorZp (b : Byte)
  /-- ROR zero-page,X, opcode 76 (R179). -/
  | rorZpx (b : Byte)
  /-- ROR absolute, opcode 6E (R179). -/
  | rorAbs (w : Addr)
  /-- ROR absolute,X, opcode 7E (R179). -/
  | rorAbsx (w : Addr)
  -- Increments and decrements (R190 to R195)
  /-- INC zero-page, opcode E6 (R190). -/
  | incZp (b : Byte)
  /-- INC zero-page,X, opcode F6 (R190). -/
  | incZpx (b : Byte)
  /-- INC absolute, opcode EE (R190). -/
  | incAbs (w : Addr)
  /-- INC absolute,X, opcode FE (R190). -/
  | incAbsx (w : Addr)
  /-- DEC zero-page, opcode C6 (R191). -/
  | decZp (b : Byte)
  /-- DEC zero-page,X, opcode D6 (R191). -/
  | decZpx (b : Byte)
  /-- DEC absolute, opcode CE (R191). -/
  | decAbs (w : Addr)
  /-- DEC absolute,X, opcode DE (R191). -/
  | decAbsx (w : Addr)
  /-- INX implied, opcode E8 (R192). -/
  | inx
  /-- INY implied, opcode C8 (R193). -/
  | iny
  /-- DEX implied, opcode CA (R194). -/
  | dex
  /-- DEY implied, opcode 88 (R195). -/
  | dey
  -- Branches, jumps, subroutines (R201 to R212)
  /-- BCC relative, opcode 90 (R201). -/
  | bcc (d : Byte)
  /-- BCS relative, opcode B0 (R202). -/
  | bcs (d : Byte)
  /-- BEQ relative, opcode F0 (R203). -/
  | beq (d : Byte)
  /-- BMI relative, opcode 30 (R204). -/
  | bmi (d : Byte)
  /-- BNE relative, opcode D0 (R205). -/
  | bne (d : Byte)
  /-- BPL relative, opcode 10 (R206). -/
  | bpl (d : Byte)
  /-- BVC relative, opcode 50 (R207). -/
  | bvc (d : Byte)
  /-- BVS relative, opcode 70 (R208). -/
  | bvs (d : Byte)
  /-- JMP absolute, opcode 4C (R209). -/
  | jmpAbs (w : Addr)
  /-- JMP indirect, opcode 6C (R210). -/
  | jmpInd (w : Addr)
  /-- JSR absolute, opcode 20 (R211). -/
  | jsr (w : Addr)
  /-- RTS implied, opcode 60 (R212). -/
  | rts
  -- Stack, flags, NOP (R222 to R233)
  /-- PHA implied, opcode 48 (R222). -/
  | pha
  /-- PLA implied, opcode 68 (R223). -/
  | pla
  /-- PHP implied, opcode 08 (R224). -/
  | php
  /-- PLP implied, opcode 28 (R225). -/
  | plp
  /-- CLC implied, opcode 18 (R226). -/
  | clc
  /-- SEC implied, opcode 38 (R227). -/
  | sec
  /-- CLI implied, opcode 58 (R228). -/
  | cli
  /-- SEI implied, opcode 78 (R229). -/
  | sei
  /-- CLD implied, opcode D8 (R230). -/
  | cld
  /-- SED implied, opcode F8 (R231). -/
  | sed
  /-- CLV implied, opcode B8 (R232). -/
  | clv
  /-- NOP implied, opcode EA (R233). -/
  | nop
  -- System (R242, R243)
  /-- BRK implied, opcode 00 (R242). -/
  | brk
  /-- RTI implied, opcode 40 (R243). -/
  | rti
  -- The invalid opcodes (R100, R244)
  /-- One of the 105 invalid opcode bytes (R244). -/
  | invalid (op : Byte)
  deriving DecidableEq, Repr

/-- The mnemonic of an instruction (the row headings of R98). -/
def Instr.mnemonic : Instr → Mnemonic
  | .ldaImm _ | .ldaZp _ | .ldaZpx _ | .ldaAbs _ | .ldaAbsx _ | .ldaAbsy _ | .ldaIndx _ | .ldaIndy _ => .LDA
  | .ldxImm _ | .ldxZp _ | .ldxZpy _ | .ldxAbs _ | .ldxAbsy _ => .LDX
  | .ldyImm _ | .ldyZp _ | .ldyZpx _ | .ldyAbs _ | .ldyAbsx _ => .LDY
  | .staZp _ | .staZpx _ | .staAbs _ | .staAbsx _ | .staAbsy _ | .staIndx _ | .staIndy _ => .STA
  | .stxZp _ | .stxZpy _ | .stxAbs _ => .STX
  | .styZp _ | .styZpx _ | .styAbs _ => .STY
  | .tax => .TAX
  | .tay => .TAY
  | .txa => .TXA
  | .tya => .TYA
  | .tsx => .TSX
  | .txs => .TXS
  | .adcImm _ | .adcZp _ | .adcZpx _ | .adcAbs _ | .adcAbsx _ | .adcAbsy _ | .adcIndx _ | .adcIndy _ => .ADC
  | .sbcImm _ | .sbcZp _ | .sbcZpx _ | .sbcAbs _ | .sbcAbsx _ | .sbcAbsy _ | .sbcIndx _ | .sbcIndy _ => .SBC
  | .cmpImm _ | .cmpZp _ | .cmpZpx _ | .cmpAbs _ | .cmpAbsx _ | .cmpAbsy _ | .cmpIndx _ | .cmpIndy _ => .CMP
  | .cpxImm _ | .cpxZp _ | .cpxAbs _ => .CPX
  | .cpyImm _ | .cpyZp _ | .cpyAbs _ => .CPY
  | .andImm _ | .andZp _ | .andZpx _ | .andAbs _ | .andAbsx _ | .andAbsy _ | .andIndx _ | .andIndy _ => .AND
  | .oraImm _ | .oraZp _ | .oraZpx _ | .oraAbs _ | .oraAbsx _ | .oraAbsy _ | .oraIndx _ | .oraIndy _ => .ORA
  | .eorImm _ | .eorZp _ | .eorZpx _ | .eorAbs _ | .eorAbsx _ | .eorAbsy _ | .eorIndx _ | .eorIndy _ => .EOR
  | .bitZp _ | .bitAbs _ => .BIT
  | .aslAcc | .aslZp _ | .aslZpx _ | .aslAbs _ | .aslAbsx _ => .ASL
  | .lsrAcc | .lsrZp _ | .lsrZpx _ | .lsrAbs _ | .lsrAbsx _ => .LSR
  | .rolAcc | .rolZp _ | .rolZpx _ | .rolAbs _ | .rolAbsx _ => .ROL
  | .rorAcc | .rorZp _ | .rorZpx _ | .rorAbs _ | .rorAbsx _ => .ROR
  | .incZp _ | .incZpx _ | .incAbs _ | .incAbsx _ => .INC
  | .decZp _ | .decZpx _ | .decAbs _ | .decAbsx _ => .DEC
  | .inx => .INX
  | .iny => .INY
  | .dex => .DEX
  | .dey => .DEY
  | .bcc _ => .BCC
  | .bcs _ => .BCS
  | .beq _ => .BEQ
  | .bmi _ => .BMI
  | .bne _ => .BNE
  | .bpl _ => .BPL
  | .bvc _ => .BVC
  | .bvs _ => .BVS
  | .jmpAbs _ | .jmpInd _ => .JMP
  | .jsr _ => .JSR
  | .rts => .RTS
  | .pha => .PHA
  | .pla => .PLA
  | .php => .PHP
  | .plp => .PLP
  | .clc => .CLC
  | .sec => .SEC
  | .cli => .CLI
  | .sei => .SEI
  | .cld => .CLD
  | .sed => .SED
  | .clv => .CLV
  | .nop => .NOP
  | .brk => .BRK
  | .rti => .RTI
  | .invalid _ => .INVALID

/-- The format of an instruction (the column headings of R98); the `INVALID` rows have format `imp` (R104). -/
def Instr.format : Instr → Format
  | .tax | .tay | .txa | .tya | .tsx | .txs | .inx | .iny | .dex | .dey | .rts | .pha | .pla | .php | .plp | .clc
  | .sec | .cli | .sei | .cld | .sed | .clv | .nop | .brk | .rti | .invalid _ => .imp
  | .aslAcc | .lsrAcc | .rolAcc | .rorAcc => .acc
  | .ldaImm _ | .ldxImm _ | .ldyImm _ | .adcImm _ | .sbcImm _ | .cmpImm _ | .cpxImm _ | .cpyImm _ | .andImm _
  | .oraImm _ | .eorImm _ => .imm
  | .ldaZp _ | .ldxZp _ | .ldyZp _ | .staZp _ | .stxZp _ | .styZp _ | .adcZp _ | .sbcZp _ | .cmpZp _ | .cpxZp _
  | .cpyZp _ | .andZp _ | .oraZp _ | .eorZp _ | .bitZp _ | .aslZp _ | .lsrZp _ | .rolZp _ | .rorZp _ | .incZp _
  | .decZp _ => .zp
  | .ldaZpx _ | .ldyZpx _ | .staZpx _ | .styZpx _ | .adcZpx _ | .sbcZpx _ | .cmpZpx _ | .andZpx _ | .oraZpx _
  | .eorZpx _ | .aslZpx _ | .lsrZpx _ | .rolZpx _ | .rorZpx _ | .incZpx _ | .decZpx _ => .zpx
  | .ldxZpy _ | .stxZpy _ => .zpy
  | .ldaAbs _ | .ldxAbs _ | .ldyAbs _ | .staAbs _ | .stxAbs _ | .styAbs _ | .adcAbs _ | .sbcAbs _ | .cmpAbs _
  | .cpxAbs _ | .cpyAbs _ | .andAbs _ | .oraAbs _ | .eorAbs _ | .bitAbs _ | .aslAbs _ | .lsrAbs _ | .rolAbs _
  | .rorAbs _ | .incAbs _ | .decAbs _ | .jmpAbs _ | .jsr _ => .abs
  | .ldaAbsx _ | .ldyAbsx _ | .staAbsx _ | .adcAbsx _ | .sbcAbsx _ | .cmpAbsx _ | .andAbsx _ | .oraAbsx _ | .eorAbsx _
  | .aslAbsx _ | .lsrAbsx _ | .rolAbsx _ | .rorAbsx _ | .incAbsx _ | .decAbsx _ => .absx
  | .ldaAbsy _ | .ldxAbsy _ | .staAbsy _ | .adcAbsy _ | .sbcAbsy _ | .cmpAbsy _ | .andAbsy _ | .oraAbsy _ | .eorAbsy _
  => .absy
  | .jmpInd _ => .ind
  | .ldaIndx _ | .staIndx _ | .adcIndx _ | .sbcIndx _ | .cmpIndx _ | .andIndx _ | .oraIndx _ | .eorIndx _ => .indx
  | .ldaIndy _ | .staIndy _ | .adcIndy _ | .sbcIndy _ | .cmpIndy _ | .andIndy _ | .oraIndy _ | .eorIndy _ => .indy
  | .bcc _ | .bcs _ | .beq _ | .bmi _ | .bne _ | .bpl _ | .bvc _ | .bvs _ => .rel

/-- The number of bytes of a format (R91). -/
def Format.length : Format → Nat
  | .imp | .acc => 1
  | .imm | .zp | .zpx | .zpy | .indx | .indy | .rel => 2
  | .abs | .absx | .absy | .ind => 3

/-- The number of bytes an instruction reads (R104: for BRK this is 1, though it advances PC by 2). -/
def Instr.length (i : Instr) : Nat := i.format.length

end Sys2Proof
end

