-- ==== Sys2Proof/Decode.lean ====
section
/-! DEFINITION. The decoder, total on any bytes and rejecting by name (R90, R96, R97, R104), and the encoder, written from the
same opcode map (R98). Byte order is decided here once: words are little-endian (R67, R93). -/

namespace Sys2Proof

/-- `{h, l}` (R11). -/
def wordOf (h l : Byte) : Addr := h ++ l

/-- `w[15:8]` (R11). -/
def highByte (w : Addr) : Byte := w.extractLsb' 8 8

/-- `w[7:0]` (R11). -/
def lowByte (w : Addr) : Byte := w.extractLsb' 0 8

/-- The opcode map (R98) with the operand bytes `b1` and `b2` that follow; a format that has no such byte ignores it. A byte
outside the map is an invalid opcode (R100). -/
def decodeOp (op b1 b2 : Byte) : Instr :=
  match op.toNat with
  | 0x00 => .brk
  | 0x01 => .oraIndx b1
  | 0x05 => .oraZp b1
  | 0x06 => .aslZp b1
  | 0x08 => .php
  | 0x09 => .oraImm b1
  | 0x0A => .aslAcc
  | 0x0D => .oraAbs (wordOf b2 b1)
  | 0x0E => .aslAbs (wordOf b2 b1)
  | 0x10 => .bpl b1
  | 0x11 => .oraIndy b1
  | 0x15 => .oraZpx b1
  | 0x16 => .aslZpx b1
  | 0x18 => .clc
  | 0x19 => .oraAbsy (wordOf b2 b1)
  | 0x1D => .oraAbsx (wordOf b2 b1)
  | 0x1E => .aslAbsx (wordOf b2 b1)
  | 0x20 => .jsr (wordOf b2 b1)
  | 0x21 => .andIndx b1
  | 0x24 => .bitZp b1
  | 0x25 => .andZp b1
  | 0x26 => .rolZp b1
  | 0x28 => .plp
  | 0x29 => .andImm b1
  | 0x2A => .rolAcc
  | 0x2C => .bitAbs (wordOf b2 b1)
  | 0x2D => .andAbs (wordOf b2 b1)
  | 0x2E => .rolAbs (wordOf b2 b1)
  | 0x30 => .bmi b1
  | 0x31 => .andIndy b1
  | 0x35 => .andZpx b1
  | 0x36 => .rolZpx b1
  | 0x38 => .sec
  | 0x39 => .andAbsy (wordOf b2 b1)
  | 0x3D => .andAbsx (wordOf b2 b1)
  | 0x3E => .rolAbsx (wordOf b2 b1)
  | 0x40 => .rti
  | 0x41 => .eorIndx b1
  | 0x45 => .eorZp b1
  | 0x46 => .lsrZp b1
  | 0x48 => .pha
  | 0x49 => .eorImm b1
  | 0x4A => .lsrAcc
  | 0x4C => .jmpAbs (wordOf b2 b1)
  | 0x4D => .eorAbs (wordOf b2 b1)
  | 0x4E => .lsrAbs (wordOf b2 b1)
  | 0x50 => .bvc b1
  | 0x51 => .eorIndy b1
  | 0x55 => .eorZpx b1
  | 0x56 => .lsrZpx b1
  | 0x58 => .cli
  | 0x59 => .eorAbsy (wordOf b2 b1)
  | 0x5D => .eorAbsx (wordOf b2 b1)
  | 0x5E => .lsrAbsx (wordOf b2 b1)
  | 0x60 => .rts
  | 0x61 => .adcIndx b1
  | 0x65 => .adcZp b1
  | 0x66 => .rorZp b1
  | 0x68 => .pla
  | 0x69 => .adcImm b1
  | 0x6A => .rorAcc
  | 0x6C => .jmpInd (wordOf b2 b1)
  | 0x6D => .adcAbs (wordOf b2 b1)
  | 0x6E => .rorAbs (wordOf b2 b1)
  | 0x70 => .bvs b1
  | 0x71 => .adcIndy b1
  | 0x75 => .adcZpx b1
  | 0x76 => .rorZpx b1
  | 0x78 => .sei
  | 0x79 => .adcAbsy (wordOf b2 b1)
  | 0x7D => .adcAbsx (wordOf b2 b1)
  | 0x7E => .rorAbsx (wordOf b2 b1)
  | 0x81 => .staIndx b1
  | 0x84 => .styZp b1
  | 0x85 => .staZp b1
  | 0x86 => .stxZp b1
  | 0x88 => .dey
  | 0x8A => .txa
  | 0x8C => .styAbs (wordOf b2 b1)
  | 0x8D => .staAbs (wordOf b2 b1)
  | 0x8E => .stxAbs (wordOf b2 b1)
  | 0x90 => .bcc b1
  | 0x91 => .staIndy b1
  | 0x94 => .styZpx b1
  | 0x95 => .staZpx b1
  | 0x96 => .stxZpy b1
  | 0x98 => .tya
  | 0x99 => .staAbsy (wordOf b2 b1)
  | 0x9A => .txs
  | 0x9D => .staAbsx (wordOf b2 b1)
  | 0xA0 => .ldyImm b1
  | 0xA1 => .ldaIndx b1
  | 0xA2 => .ldxImm b1
  | 0xA4 => .ldyZp b1
  | 0xA5 => .ldaZp b1
  | 0xA6 => .ldxZp b1
  | 0xA8 => .tay
  | 0xA9 => .ldaImm b1
  | 0xAA => .tax
  | 0xAC => .ldyAbs (wordOf b2 b1)
  | 0xAD => .ldaAbs (wordOf b2 b1)
  | 0xAE => .ldxAbs (wordOf b2 b1)
  | 0xB0 => .bcs b1
  | 0xB1 => .ldaIndy b1
  | 0xB4 => .ldyZpx b1
  | 0xB5 => .ldaZpx b1
  | 0xB6 => .ldxZpy b1
  | 0xB8 => .clv
  | 0xB9 => .ldaAbsy (wordOf b2 b1)
  | 0xBA => .tsx
  | 0xBC => .ldyAbsx (wordOf b2 b1)
  | 0xBD => .ldaAbsx (wordOf b2 b1)
  | 0xBE => .ldxAbsy (wordOf b2 b1)
  | 0xC0 => .cpyImm b1
  | 0xC1 => .cmpIndx b1
  | 0xC4 => .cpyZp b1
  | 0xC5 => .cmpZp b1
  | 0xC6 => .decZp b1
  | 0xC8 => .iny
  | 0xC9 => .cmpImm b1
  | 0xCA => .dex
  | 0xCC => .cpyAbs (wordOf b2 b1)
  | 0xCD => .cmpAbs (wordOf b2 b1)
  | 0xCE => .decAbs (wordOf b2 b1)
  | 0xD0 => .bne b1
  | 0xD1 => .cmpIndy b1
  | 0xD5 => .cmpZpx b1
  | 0xD6 => .decZpx b1
  | 0xD8 => .cld
  | 0xD9 => .cmpAbsy (wordOf b2 b1)
  | 0xDD => .cmpAbsx (wordOf b2 b1)
  | 0xDE => .decAbsx (wordOf b2 b1)
  | 0xE0 => .cpxImm b1
  | 0xE1 => .sbcIndx b1
  | 0xE4 => .cpxZp b1
  | 0xE5 => .sbcZp b1
  | 0xE6 => .incZp b1
  | 0xE8 => .inx
  | 0xE9 => .sbcImm b1
  | 0xEA => .nop
  | 0xEC => .cpxAbs (wordOf b2 b1)
  | 0xED => .sbcAbs (wordOf b2 b1)
  | 0xEE => .incAbs (wordOf b2 b1)
  | 0xF0 => .beq b1
  | 0xF1 => .sbcIndy b1
  | 0xF5 => .sbcZpx b1
  | 0xF6 => .incZpx b1
  | 0xF8 => .sed
  | 0xF9 => .sbcAbsy (wordOf b2 b1)
  | 0xFD => .sbcAbsx (wordOf b2 b1)
  | 0xFE => .incAbsx (wordOf b2 b1)
  | _ => .invalid op

/-- The length of the instruction an opcode byte begins (R96: the opcode alone decides it). -/
def opcodeLength (op : Byte) : Nat := (decodeOp op 0 0).length

/-- Why bytes hold no whole instruction. The machine never meets either: it fetches as many bytes as the opcode asks for. -/
inductive DecodeError where
  /-- There is no byte at all. -/
  | noOpcode
  /-- The bytes end before the operand the opcode asks for. -/
  | missingOperand
  deriving DecidableEq, Repr

/-- Decode the instruction at the head of a list of bytes, and give the rest. Total: every byte is an opcode (R97). -/
def decode (bytes : List Byte) : Except DecodeError (Instr × List Byte) :=
  match bytes with
  | [] => .error .noOpcode
  | op :: rest =>
    match opcodeLength op, rest with
    | 1, r => .ok (decodeOp op 0 0, r)
    | 2, b1 :: r => .ok (decodeOp op b1 0, r)
    | 3, b1 :: b2 :: r => .ok (decodeOp op b1 b2, r)
    | _, _ => .error .missingOperand

/-- The bytes of an instruction: the opcode of R98, then the operand, low byte first (R90, R93). -/
def encode : Instr → List Byte
  | .ldaImm v => [0xA9, v]
  | .ldaZp b => [0xA5, b]
  | .ldaZpx b => [0xB5, b]
  | .ldaAbs w => [0xAD, lowByte w, highByte w]
  | .ldaAbsx w => [0xBD, lowByte w, highByte w]
  | .ldaAbsy w => [0xB9, lowByte w, highByte w]
  | .ldaIndx b => [0xA1, b]
  | .ldaIndy b => [0xB1, b]
  | .ldxImm v => [0xA2, v]
  | .ldxZp b => [0xA6, b]
  | .ldxZpy b => [0xB6, b]
  | .ldxAbs w => [0xAE, lowByte w, highByte w]
  | .ldxAbsy w => [0xBE, lowByte w, highByte w]
  | .ldyImm v => [0xA0, v]
  | .ldyZp b => [0xA4, b]
  | .ldyZpx b => [0xB4, b]
  | .ldyAbs w => [0xAC, lowByte w, highByte w]
  | .ldyAbsx w => [0xBC, lowByte w, highByte w]
  | .staZp b => [0x85, b]
  | .staZpx b => [0x95, b]
  | .staAbs w => [0x8D, lowByte w, highByte w]
  | .staAbsx w => [0x9D, lowByte w, highByte w]
  | .staAbsy w => [0x99, lowByte w, highByte w]
  | .staIndx b => [0x81, b]
  | .staIndy b => [0x91, b]
  | .stxZp b => [0x86, b]
  | .stxZpy b => [0x96, b]
  | .stxAbs w => [0x8E, lowByte w, highByte w]
  | .styZp b => [0x84, b]
  | .styZpx b => [0x94, b]
  | .styAbs w => [0x8C, lowByte w, highByte w]
  | .tax => [0xAA]
  | .tay => [0xA8]
  | .txa => [0x8A]
  | .tya => [0x98]
  | .tsx => [0xBA]
  | .txs => [0x9A]
  | .adcImm v => [0x69, v]
  | .adcZp b => [0x65, b]
  | .adcZpx b => [0x75, b]
  | .adcAbs w => [0x6D, lowByte w, highByte w]
  | .adcAbsx w => [0x7D, lowByte w, highByte w]
  | .adcAbsy w => [0x79, lowByte w, highByte w]
  | .adcIndx b => [0x61, b]
  | .adcIndy b => [0x71, b]
  | .sbcImm v => [0xE9, v]
  | .sbcZp b => [0xE5, b]
  | .sbcZpx b => [0xF5, b]
  | .sbcAbs w => [0xED, lowByte w, highByte w]
  | .sbcAbsx w => [0xFD, lowByte w, highByte w]
  | .sbcAbsy w => [0xF9, lowByte w, highByte w]
  | .sbcIndx b => [0xE1, b]
  | .sbcIndy b => [0xF1, b]
  | .cmpImm v => [0xC9, v]
  | .cmpZp b => [0xC5, b]
  | .cmpZpx b => [0xD5, b]
  | .cmpAbs w => [0xCD, lowByte w, highByte w]
  | .cmpAbsx w => [0xDD, lowByte w, highByte w]
  | .cmpAbsy w => [0xD9, lowByte w, highByte w]
  | .cmpIndx b => [0xC1, b]
  | .cmpIndy b => [0xD1, b]
  | .cpxImm v => [0xE0, v]
  | .cpxZp b => [0xE4, b]
  | .cpxAbs w => [0xEC, lowByte w, highByte w]
  | .cpyImm v => [0xC0, v]
  | .cpyZp b => [0xC4, b]
  | .cpyAbs w => [0xCC, lowByte w, highByte w]
  | .andImm v => [0x29, v]
  | .andZp b => [0x25, b]
  | .andZpx b => [0x35, b]
  | .andAbs w => [0x2D, lowByte w, highByte w]
  | .andAbsx w => [0x3D, lowByte w, highByte w]
  | .andAbsy w => [0x39, lowByte w, highByte w]
  | .andIndx b => [0x21, b]
  | .andIndy b => [0x31, b]
  | .oraImm v => [0x09, v]
  | .oraZp b => [0x05, b]
  | .oraZpx b => [0x15, b]
  | .oraAbs w => [0x0D, lowByte w, highByte w]
  | .oraAbsx w => [0x1D, lowByte w, highByte w]
  | .oraAbsy w => [0x19, lowByte w, highByte w]
  | .oraIndx b => [0x01, b]
  | .oraIndy b => [0x11, b]
  | .eorImm v => [0x49, v]
  | .eorZp b => [0x45, b]
  | .eorZpx b => [0x55, b]
  | .eorAbs w => [0x4D, lowByte w, highByte w]
  | .eorAbsx w => [0x5D, lowByte w, highByte w]
  | .eorAbsy w => [0x59, lowByte w, highByte w]
  | .eorIndx b => [0x41, b]
  | .eorIndy b => [0x51, b]
  | .bitZp b => [0x24, b]
  | .bitAbs w => [0x2C, lowByte w, highByte w]
  | .aslAcc => [0x0A]
  | .aslZp b => [0x06, b]
  | .aslZpx b => [0x16, b]
  | .aslAbs w => [0x0E, lowByte w, highByte w]
  | .aslAbsx w => [0x1E, lowByte w, highByte w]
  | .lsrAcc => [0x4A]
  | .lsrZp b => [0x46, b]
  | .lsrZpx b => [0x56, b]
  | .lsrAbs w => [0x4E, lowByte w, highByte w]
  | .lsrAbsx w => [0x5E, lowByte w, highByte w]
  | .rolAcc => [0x2A]
  | .rolZp b => [0x26, b]
  | .rolZpx b => [0x36, b]
  | .rolAbs w => [0x2E, lowByte w, highByte w]
  | .rolAbsx w => [0x3E, lowByte w, highByte w]
  | .rorAcc => [0x6A]
  | .rorZp b => [0x66, b]
  | .rorZpx b => [0x76, b]
  | .rorAbs w => [0x6E, lowByte w, highByte w]
  | .rorAbsx w => [0x7E, lowByte w, highByte w]
  | .incZp b => [0xE6, b]
  | .incZpx b => [0xF6, b]
  | .incAbs w => [0xEE, lowByte w, highByte w]
  | .incAbsx w => [0xFE, lowByte w, highByte w]
  | .decZp b => [0xC6, b]
  | .decZpx b => [0xD6, b]
  | .decAbs w => [0xCE, lowByte w, highByte w]
  | .decAbsx w => [0xDE, lowByte w, highByte w]
  | .inx => [0xE8]
  | .iny => [0xC8]
  | .dex => [0xCA]
  | .dey => [0x88]
  | .bcc d => [0x90, d]
  | .bcs d => [0xB0, d]
  | .beq d => [0xF0, d]
  | .bmi d => [0x30, d]
  | .bne d => [0xD0, d]
  | .bpl d => [0x10, d]
  | .bvc d => [0x50, d]
  | .bvs d => [0x70, d]
  | .jmpAbs w => [0x4C, lowByte w, highByte w]
  | .jmpInd w => [0x6C, lowByte w, highByte w]
  | .jsr w => [0x20, lowByte w, highByte w]
  | .rts => [0x60]
  | .pha => [0x48]
  | .pla => [0x68]
  | .php => [0x08]
  | .plp => [0x28]
  | .clc => [0x18]
  | .sec => [0x38]
  | .cli => [0x58]
  | .sei => [0x78]
  | .cld => [0xD8]
  | .sed => [0xF8]
  | .clv => [0xB8]
  | .nop => [0xEA]
  | .brk => [0x00]
  | .rti => [0x40]
  | .invalid op => [op]

/-- The `k`-th byte of an instruction whose bits are `w`, numbered from the first byte's bit 0; the bits from `nbits` on are 0. -/
def tableByte (nbits w k : Nat) : Byte := BitVec.ofNat 8 (w % 2 ^ nbits / 2 ^ (8 * k))

/-- What the decoder reads from an instruction whose bits are `w` as the opcode table numbers them: the first byte holds bits
7..0, the second bits 15..8. -/
def decodeTableWord (nbits w : Nat) : Option Instr :=
  match decode [tableByte nbits w 0, tableByte nbits w 1, tableByte nbits w 2] with
  | .ok (i, _) => some i
  | .error _ => none

end Sys2Proof
end

