-- ==== Sys2Proof/Config.lean ====
section
/-! DEFINITION. What the platform fixes and what the spec leaves open (R8). The parameters of R8 are plain data (`Config`),
held in `State.config`, so that a statement about every state covers every choice of them; `Config.standard` holds the
spec's own defaults. What a peripheral does is not given at all (R60, U9): three opaque functions, so that no proof can
see a value of theirs. -/

namespace Sys2Proof

/-- One entry of a table that overrides the decimal result for ONE triple of operands that is not valid BCD (R8, R159:
`DecAdc` and `DecSbc` are parameters there). DESIGN CHOICE (log 19): the parameter is a finite table over the finitely
many operands, which is plain data and can still be any function. -/
structure DecimalEntry where
  left     : Byte
  right    : Byte
  carryIn  : Bool
  result   : Byte
  carryOut : Bool
  deriving DecidableEq, Repr

/-- The Boolean parameters and the decimal tables of R8. -/
structure Config where
  /-- `JMP_IND_PAGE_WRAP` (R123, D14): OPEN in the spec, suggested default true. -/
  jmpIndPageWrap : Bool
  /-- `ZP_PTR_WRAP` (R119, D13): default true. -/
  zpPtrWrap : Bool
  /-- `IRQ_ENTRY_SETS_I` (R254, D9): default false. -/
  irqEntrySetsI : Bool
  /-- `BRK_GATED_BY_I` (R242, D8): default true. -/
  brkGatedByI : Bool
  /-- `DecAdc` on operands that are not BCD (R159, D6): overrides of the formula of R155. -/
  decAdc : List DecimalEntry
  /-- `DecSbc` on operands that are not BCD (R159, D6): overrides of the formula of R158. -/
  decSbc : List DecimalEntry
  deriving DecidableEq, Repr

/-- The defaults of R8: the spec's own suggestion for every parameter. DESIGN CHOICE (log 19 to 24). -/
def Config.standard : Config :=
  { jmpIndPageWrap := true, zpPtrWrap := true, irqEntrySetsI := false, brkGatedByI := true, decAdc := [], decSbc := [] }

/-- The state of a peripheral: "internal registers and FIFO-like transmit/receive queues" (R35, R60). The spec gives no
width, depth or meaning of any of them. -/
structure PeripheralState where
  registers : List Byte
  transmit  : List Byte
  receive   : List Byte
  deriving DecidableEq, Repr, Inhabited

/-- The `read` of peripheral number `id` (R60: `read : S -> address -> (byte, S)`): the byte it answers and its state after.
Free (U9, log 10). -/
opaque Config.peripheralRead (id : Nat) (st : PeripheralState) (a : Addr) : Byte × PeripheralState

/-- The `write` of peripheral number `id` (R60: `write : S -> address -> byte -> S`). Free (U9, log 10). -/
opaque Config.peripheralWrite (id : Nat) (st : PeripheralState) (a : Addr) (v : Byte) : PeripheralState

/-- The environment transition of peripheral number `id` (R60: `S -> S` between core events), given what the outside
world puts in. Free (log 10). -/
opaque Config.peripheralInput (id : Nat) (st : PeripheralState) (input : List Byte) : PeripheralState

end Sys2Proof
end

