-- ==== Sys2Proof/Machine/State.lean ====
section
/-! DEFINITION. The state of the machine as plain data: the Register Set (R20), the lifecycle mode (R32), the devices behind
the Bus (R35, R52 to R62), the platform's parameters (R8), and the inputs and outputs of its events (R9); the reasons a
step can stop; and the state right after `Reset` (R37). -/

namespace Sys2Proof.Machine

/-- The eight bits of the status register `P` by name (R26). `u` is the unused position, a storage bit (R28). -/
inductive Flag where
  | n | v | u | b | d | i | z | c
  deriving DecidableEq, Repr

/-- The lifecycle state (R32). It is no privilege level (R268). -/
inductive Mode where
  | awaitingReset
  | running
  deriving DecidableEq, Repr

/-- Bytes by index, in ONE canonical form: indexes strictly rising, and no entry equal to what an unlisted index reads as
(`Memory.wf` in Ops.lean). -/
abbrev Memory := List Host.Cell

/-- A block device: RAM, or ROM when `readOnly` (R54). It covers `start .. stop`, both inclusive. Its array `data[0 .. stop -
start]` is held as the bytes that differ from `fill` ("Construction from a fill byte ... fills the whole range", R58), by
index: an unlisted index reads as `fill`. -/
structure Block where
  start    : Addr
  stop     : Addr
  readOnly : Bool
  fill     : Byte
  data     : Memory
  deriving DecidableEq, Repr

/-- A peripheral (R60): an object with a state of its own inside the window `start .. stop`. `readable` and `writable`
list the addresses of the window it claims in each direction; both are fixed. What it does is free
(`Config.peripheralRead` and the two beside it), told apart by `id`. -/
structure Peripheral where
  id       : Nat
  start    : Addr
  stop     : Addr
  readable : List Addr
  writable : List Addr
  state    : PeripheralState
  deriving DecidableEq, Repr

/-- A Memory-Mapped Device (R52). -/
inductive Device where
  | block (b : Block)
  | peripheral (d : Peripheral)
  deriving DecidableEq, Repr

/-- What the driver or the outside world may do to the block (R9, R262): one event at a time, each whole.
`device k input` is the environment transition of the `k`-th device, when it is a peripheral (R60). -/
inductive Event where
  | step
  | reset
  | irq
  | nmi
  | device (k : Nat) (input : List Byte)
  deriving DecidableEq, Repr

/-- One access of the core to the Bus: `BusRead(a)` returning `v`, or `BusWrite(a, v)` (R9, R71). -/
inductive BusAccess where
  | read (a : Addr) (v : Byte)
  | write (a : Addr) (v : Byte)
  deriving DecidableEq, Repr

/-- The output `InvalidOpcode(pc, op)` (R244). -/
structure InvalidReport where
  pc : Addr
  op : Byte
  deriving DecidableEq, Repr

/-- The whole machine. The last four fields are the interface of R9: `schedule` the driver's remaining inputs, and
`cycles`, `report`, `accesses` what the last event put out; no instruction reads them. -/
structure State where
  /-- The accumulator (R21). -/
  a : Byte
  /-- Index register X (R22). -/
  x : Byte
  /-- Index register Y (R23). -/
  y : Byte
  /-- The stack pointer, an offset into page 1 (R25). -/
  sp : Byte
  /-- The status register (R26); its bits by name are `State.flag`. -/
  p : Byte
  /-- The program counter (R24). -/
  pc : Addr
  /-- The lifecycle state (R32). -/
  mode : Mode
  /-- The devices of the Bus in attachment order (R62). -/
  devices : List Device
  /-- The platform's parameters (R8), fixed for a run. -/
  config : Config
  /-- The events the driver issues next; when there is none left it issues `Step` (R36, R262; log 6). DESIGN CHOICE: R262 leaves
  open whether the interleaving may be unending; here it is a finite list, so only finitely many interrupts are still to come
  (log 6). -/
  schedule : List Event
  /-- The cycle count the last event returned; none for an event that returns none (R240, R263). -/
  cycles : Option Nat
  /-- The report the last event put out (R244). -/
  report : Option InvalidReport
  /-- The accesses the last event made, in order (R71, R72). -/
  accesses : List BusAccess
  deriving DecidableEq, Repr

/-- The reasons the machine stops with a fault: there are none. "No behaviour of this block is treated as `fault` or
`stuck`: the block has no fault mechanism and never stops" (93_implementation_defined.md Part 1; R16, R241, R250). -/
inductive Fault where
  deriving DecidableEq, Repr

/-- The reasons the model has no transition. -/
inductive Refusal where
  /-- Raised by `exec` for an instruction that has no meaning yet. Safe. -/
  | notModelled (mnemonic : String)
  /-- Raised by the events `Step`, `IRQ` and `NMI` in `awaitingReset`: the spec gives them no transition there (R32, D21, U2).
  Safe: a claim cannot be proved through it. -/
  | beforeReset
  deriving DecidableEq, Repr

/-- The three outcomes of a step of this machine. -/
abbrev Outcome := Host.Outcome State Fault Refusal

/-- The platform of `State.reset`: one read-write block over the whole address space, every byte 0x00. It is the platform
95_test_vectors.md takes where it says nothing else. DESIGN CHOICE (log 1, 2): the spec leaves `devices` and `init_image` to
the platform (R8). -/
def flatRam : Block := { start := 0x0000, stop := 0xFFFF, readOnly := false, fill := 0x00, data := [] }

/-- The machine right after the `Reset` event (R37, R280) on the platform `flatRam`: PC is the word at 0xFFFC, which is
0x0000 there (log 3); the two accesses are those of `Reset` (R281). -/
def State.reset : State :=
  { a := 0x00, x := 0x00, y := 0x00, sp := 0xFF, p := 0x04, pc := 0x0000, mode := .running,
    devices := [.block flatRam], config := .standard, schedule := [],
    cycles := none, report := none, accesses := [.read 0xFFFC 0x00, .read 0xFFFD 0x00] }

end Sys2Proof.Machine
end

