-- ==== Sys2Proof/Machine/Flags.lean ====
section
/-! DEFINITION. The status register by bits (R26) and every flag computation the spec gives: SetZN (R150), binary and decimal
addition and subtraction (R154, R155, R157, R158), signed overflow (R152), compare (R163), and the four shifts (R176 to R179). -/

namespace Sys2Proof.Machine

/-- The position of a flag in `P` (R26). -/
def Flag.bit : Flag → Nat
  | .n => 7
  | .v => 6
  | .u => 5
  | .b => 4
  | .d => 3
  | .i => 2
  | .z => 1
  | .c => 0

/-- Read one flag of a status byte. -/
def statusGet (p : Byte) (f : Flag) : Bool := p.getLsbD f.bit

/-- `P.f <- v` on a status byte (R13): every other bit is kept. -/
def statusSet (p : Byte) (f : Flag) (v : Bool) : Byte :=
  if v then p ||| (1#8 <<< f.bit) else p &&& ~~~(1#8 <<< f.bit)

/-- The flag `f` of the live register `P`. -/
def State.flag (s : State) (f : Flag) : Bool := statusGet s.p f

/-- `SetZN(v)` (R150), on a status byte. -/
def setZN (v : Byte) (p : Byte) : Byte := statusSet (statusSet p .z (v == 0)) .n (v.getLsbD 7)

/-- The result of an addition, subtraction or shift: the byte and the carry. -/
structure ByteCarry where
  result : Byte
  carry  : Bool
  deriving DecidableEq, Repr

/-- `AddBin(a, m, cin)` (R154). -/
def addBin (a m : Byte) (cin : Bool) : ByteCarry :=
  let t := a.toNat + m.toNat + cin.toNat
  ⟨BitVec.ofNat 8 t, decide (t > 255)⟩

/-- `SubBin(a, m, cin)` (R157): the borrow is the complement of the carry. -/
def subBin (a m : Byte) (cin : Bool) : ByteCarry :=
  let t := a.toNat + (~~~m).toNat + cin.toNat
  ⟨BitVec.ofNat 8 t, decide (t > 255)⟩

/-- Every nibble is a decimal digit (R165). -/
def isBcd (v : Byte) : Bool := decide (v.toNat % 16 ≤ 9) && decide (v.toNat / 16 ≤ 9)

/-- The formula of `AddDec` (R155), total on all bytes. -/
def addDecFormula (a m : Byte) (cin : Bool) : ByteCarry :=
  let lo := a.toNat % 16 + m.toNat % 16 + cin.toNat
  let c1 := if lo > 9 then 1 else 0
  let lo' := if lo > 9 then (lo + 6) % 16 else lo
  let hi := a.toNat / 16 + m.toNat / 16 + c1
  let hi' := if hi > 9 then (hi + 6) % 16 else hi
  ⟨BitVec.ofNat 8 (hi' * 16 + lo'), decide (hi > 9)⟩

/-- The formula of `SubDec` (R158), total on all bytes; the digits are computed on integers and narrowed at the end. -/
def subDecFormula (a m : Byte) (cin : Bool) : ByteCarry :=
  let lo : Int := (a.toNat % 16 : Nat) - (m.toNat % 16 : Nat) - (1 - (cin.toNat : Int))
  let b1 : Int := if lo < 0 then 1 else 0
  let lo' : Int := if lo < 0 then (lo + 10) % 16 else lo
  let hi : Int := (a.toNat / 16 : Nat) - (m.toNat / 16 : Nat) - b1
  let hi' : Int := if hi < 0 then (hi + 10) % 16 else hi
  ⟨BitVec.ofNat 8 (hi' * 16 + lo').toNat, decide (0 ≤ hi)⟩

/-- The override of a decimal table for these operands, if it has one (R159; log 19). -/
def decimalOverride (table : List DecimalEntry) (a m : Byte) (cin : Bool) : Option ByteCarry :=
  (table.find? fun e => decide (e.left = a) && decide (e.right = m) && decide (e.carryIn = cin)).map
    fun e => ⟨e.result, e.carryOut⟩

/-- `AddDec` (R155) where both operands are BCD; where one is not, the parameter `DecAdc`, whose default is the formula
(R159, D6). -/
def addDec (cfg : Config) (a m : Byte) (cin : Bool) : ByteCarry :=
  if isBcd a && isBcd m then addDecFormula a m cin
  else (decimalOverride cfg.decAdc a m cin).getD (addDecFormula a m cin)

/-- `SubDec` (R158) where both operands are BCD; where one is not, the parameter `DecSbc`, whose default is the formula
(R159, D6). -/
def subDec (cfg : Config) (a m : Byte) (cin : Bool) : ByteCarry :=
  if isBcd a && isBcd m then subDecFormula a m cin
  else (decimalOverride cfg.decSbc a m cin).getD (subDecFormula a m cin)

/-- Signed overflow of the addition `a + m` with result `r` (R152). -/
def overflowAdd (a m r : Byte) : Bool := ((a ^^^ r) &&& (m ^^^ r)).getLsbD 7

/-- Signed overflow of the subtraction `a - m` with result `r` (R152). -/
def overflowSub (a m r : Byte) : Bool := ((a ^^^ m) &&& (a ^^^ r)).getLsbD 7

/-- The status after ADC or SBC: V, C, then Z and N from the result (R153, R156). -/
def arithStatus (overflow : Bool) (r : ByteCarry) (p : Byte) : Byte :=
  setZN r.result (statusSet (statusSet p .v overflow) .c r.carry)

/-- `Compare(r, m)` on a status byte (R163). -/
def compareStatus (r m : Byte) (p : Byte) : Byte :=
  setZN (r - m) (statusSet p .c (decide (m.toNat ≤ r.toNat)))

/-- The flags of BIT (R174): Z from `a and m`, N and V from the operand. -/
def bitStatus (a m : Byte) (p : Byte) : Byte :=
  statusSet (statusSet (statusSet p .z ((a &&& m) == 0)) .n (m.getLsbD 7)) .v (m.getLsbD 6)

/-- ASL's function (R176): bit 7 goes to carry, bit 0 becomes 0. -/
def shiftAsl (v : Byte) (_cin : Bool) : ByteCarry := ⟨v <<< 1, v.getLsbD 7⟩

/-- LSR's function (R177): bit 0 goes to carry, bit 7 becomes 0. -/
def shiftLsr (v : Byte) (_cin : Bool) : ByteCarry := ⟨v >>> 1, v.getLsbD 0⟩

/-- ROL's function (R178): the old carry enters bit 0. -/
def shiftRol (v : Byte) (cin : Bool) : ByteCarry := ⟨(v <<< 1) ||| (if cin then 0x01 else 0x00), v.getLsbD 7⟩

/-- ROR's function (R179): the old carry enters bit 7. -/
def shiftRor (v : Byte) (cin : Bool) : ByteCarry := ⟨(v >>> 1) ||| (if cin then 0x80 else 0x00), v.getLsbD 0⟩

/-- The status after a shift or rotate (R175). -/
def shiftStatus (r : ByteCarry) (p : Byte) : Byte := setZN r.result (statusSet p .c r.carry)

end Sys2Proof.Machine
end

