-- ==== Sys2Proof/Machine/Ops.lean ====
section
/-! DEFINITION. The shared operations of the machine: register updates, block contents, the device contract (R52 to R60), the
Bus router (R63, R64), the stack (R220, R221), words over two accesses (R14), taking an interrupt (R251) and returning from one (R243). -/

namespace Sys2Proof.Machine

/-! ### Register updates -/

def State.setA (s : State) (v : Byte) : State := { s with a := v }
def State.setX (s : State) (v : Byte) : State := { s with x := v }
def State.setY (s : State) (v : Byte) : State := { s with y := v }
def State.setSp (s : State) (v : Byte) : State := { s with sp := v }
def State.setP (s : State) (v : Byte) : State := { s with p := v }
def State.setPc (s : State) (v : Addr) : State := { s with pc := v }

/-- `P.f <- v` on the live register (R13). -/
def State.setFlag (s : State) (f : Flag) (v : Bool) : State := s.setP (statusSet s.p f v)

/-- `A <- v; SetZN(v)` (R150), the ending of every instruction that writes A from one byte but ADC, SBC and the shifts. -/
def State.loadA (s : State) (v : Byte) : State := (s.setA v).setP (setZN v s.p)

/-- `X <- v; SetZN(v)`. -/
def State.loadX (s : State) (v : Byte) : State := (s.setX v).setP (setZN v s.p)

/-- `Y <- v; SetZN(v)`. -/
def State.loadY (s : State) (v : Byte) : State := (s.setY v).setP (setZN v s.p)

/-- The end of an event: the cycle count it returns (R240). -/
def State.setCycles (s : State) (n : Nat) : State := { s with cycles := some n }

/-- The output `InvalidOpcode(pc, op)` (R244). -/
def State.emitReport (s : State) (pc : Addr) (op : Byte) : State := { s with report := some ⟨pc, op⟩ }

/-- The start of an event: nothing put out yet. The outputs of the event before are dropped, so none can influence a later
one (R244, R288). -/
def State.beginEvent (s : State) : State := { s with cycles := none, report := none, accesses := [] }

/-- The end of an instruction that is no control transfer: `PC <- u16(pc0 + len)`, and the cycle count (R24, R110). -/
def State.finish (s : State) (len cyc : Nat) : State := (s.setPc (s.pc + BitVec.ofNat 16 len)).setCycles cyc

/-! ### Block contents -/

/-- The byte at index `i` of a block's array (R56); an unlisted index reads as `fill`. -/
def Memory.read (fill : Byte) (m : Memory) (i : Nat) : Byte :=
  match m with
  | [] => fill
  | (k, v) :: rest => if k = i then v else Memory.read fill rest i

/-- Put an entry in its place in the order. -/
def Memory.insert (i : Nat) (v : Byte) (m : Memory) : Memory :=
  match m with
  | [] => [(i, v)]
  | (k, w) :: rest => if i < k then (i, v) :: (k, w) :: rest else (k, w) :: Memory.insert i v rest

/-- `data[i] <- v` (R56), keeping the canonical form: a byte equal to `fill` is not listed. -/
def Memory.write (fill : Byte) (m : Memory) (i : Nat) (v : Byte) : Memory :=
  let rest := m.filter fun c => decide (c.1 ≠ i)
  if v = fill then rest else Memory.insert i v rest

/-- The canonical form of a block's array of `size` bytes: indexes strictly rising and inside the array, no entry equal to
`fill`. -/
abbrev Memory.wf (fill : Byte) (size : Nat) (m : Memory) : Prop :=
  m.Pairwise (fun c d => c.1 < d.1) ∧ ∀ c ∈ m, c.1 < size ∧ c.2 ≠ fill

/-! ### The device contract -/

/-- The number of bytes of a block (R54). -/
def Block.size (b : Block) : Nat := b.stop.toNat - b.start.toNat + 1

/-- The address lies in the block's inclusive range (R54). -/
def Block.covers (b : Block) (a : Addr) : Bool :=
  decide (b.start.toNat ≤ a.toNat) && decide (a.toNat ≤ b.stop.toNat)

/-- The index of an address in the block's array: `a - start` (R56, D25). -/
def Block.index (b : Block) (a : Addr) : Nat := a.toNat - b.start.toNat

def Block.read (b : Block) (a : Addr) : Byte := Memory.read b.fill b.data (b.index a)

/-- `data[a - start] <- v`, whatever `readOnly` says: the write of a loader, and of `Block.write` below. -/
def Block.store (b : Block) (a : Addr) (v : Byte) : Block :=
  { b with data := Memory.write b.fill b.data (b.index a) v }

/-- A block's `write` (R56): "no-op if the block is read-only". -/
def Block.write (b : Block) (a : Addr) (v : Byte) : Block := if b.readOnly then b else b.store a v

/-- The address lies in the peripheral's window (R60). -/
def Peripheral.inWindow (d : Peripheral) (a : Addr) : Bool :=
  decide (d.start.toNat ≤ a.toNat) && decide (a.toNat ≤ d.stop.toNat)

/-- `claims(a, isRead)` (R52): a block's by R55, a peripheral's true only inside its window (R60). -/
def Device.claims (d : Device) (a : Addr) (isRead : Bool) : Bool :=
  match d with
  | .block b => b.covers a && (isRead || !b.readOnly)
  | .peripheral q => q.inWindow a && (if isRead then q.readable.contains a else q.writable.contains a)

/-- The byte a read of `a` returns, for a device that claims it (R56, R60). -/
def Device.readValue (d : Device) (a : Addr) : Byte :=
  match d with
  | .block b => b.read a
  | .peripheral q => (Config.peripheralRead q.id q.state a).1

/-- The device after a read of `a`: a block has no read side effect, a peripheral may have one (R56, R60, R71). -/
def Device.afterRead (d : Device) (a : Addr) : Device :=
  match d with
  | .block b => .block b
  | .peripheral q => .peripheral { q with state := (Config.peripheralRead q.id q.state a).2 }

/-- The device after a write of `v` to `a`, for a device that claims it (R56, R60). -/
def Device.write (d : Device) (a : Addr) (v : Byte) : Device :=
  match d with
  | .block b => .block (b.write a v)
  | .peripheral q => .peripheral { q with state := Config.peripheralWrite q.id q.state a v }

/-- The device after an input from the outside world: only a peripheral takes one (R60). -/
def Device.input (d : Device) (data : List Byte) : Device :=
  match d with
  | .block b => .block b
  | .peripheral q => .peripheral { q with state := Config.peripheralInput q.id q.state data }

/-- The byte a block holds for an address it covers, whatever the Bus routes there; none for a peripheral and outside the
block. The model's look at one stored byte of one device. -/
def Device.stored (d : Device) (a : Addr) : Option Byte :=
  match d with
  | .block b => if b.covers a then some (b.read a) else none
  | .peripheral _ => none

/-! ### The Bus -/

/-- The byte `BusRead(a)` returns (R63): the first claiming device's, or 0x00 if none claims it. -/
def busReadValue (ds : List Device) (a : Addr) : Byte :=
  match ds with
  | [] => 0x00
  | d :: rest => if d.claims a true then d.readValue a else busReadValue rest a

/-- The devices after `BusRead(a)` (R63): only the first claiming device sees the read. -/
def busAfterRead (ds : List Device) (a : Addr) : List Device :=
  match ds with
  | [] => []
  | d :: rest => if d.claims a true then d.afterRead a :: rest else d :: busAfterRead rest a

/-- The devices after `BusWrite(a, v)` (R64): only the first device that claims the write sees it; with none it is dropped. -/
def busAfterWrite (ds : List Device) (a : Addr) (v : Byte) : List Device :=
  match ds with
  | [] => []
  | d :: rest => if d.claims a false then d.write a v :: rest else d :: busAfterWrite rest a v

/-- The value of `MemRead(a, 1)` (R14) in this state. -/
def State.byteAt (s : State) (a : Addr) : Byte := busReadValue s.devices a

/-- The state after `MemRead(a, 1)` (R14). -/
def State.afterRead (s : State) (a : Addr) : State :=
  { s with devices := busAfterRead s.devices a, accesses := s.accesses ++ [.read a (s.byteAt a)] }

/-- `MemWrite(a, 1, v)` (R14). -/
def State.busWrite (s : State) (a : Addr) (v : Byte) : State :=
  { s with devices := busAfterWrite s.devices a v, accesses := s.accesses ++ [.write a v] }

/-- The byte the `k`-th device stores for `a`, if it is a block that covers it. -/
def State.storedAt (s : State) (k : Nat) (a : Addr) : Option Byte := (s.devices[k]?).bind (·.stored a)

/-- What a read of `a` would return, without making it: none where a peripheral would answer, since its answer is not
given and the read may change it. -/
def peekDevices (ds : List Device) (a : Addr) : Option Byte :=
  match ds with
  | [] => some 0x00
  | d :: rest => if d.claims a true then d.stored a else peekDevices rest a

def State.peek (s : State) (a : Addr) : Option Byte := peekDevices s.devices a

/-! ### Words over two accesses -/

/-- A word read through the Bus, and the state after its two reads. -/
structure WordRead where
  value : Addr
  state : State

/-- Two reads, the low byte first, giving `{hi, lo}` (R14, R67, D16). -/
def State.readPair (s : State) (loAddr hiAddr : Addr) : WordRead :=
  let s1 := s.afterRead loAddr
  ⟨wordOf (s1.byteAt hiAddr) (s.byteAt loAddr), s1.afterRead hiAddr⟩

/-- `Read16(a)` (R14): the second address wraps from 0xFFFF to 0x0000. -/
def State.read16 (s : State) (a : Addr) : WordRead := s.readPair a (a + 1)

/-! ### The stack -/

/-- `{0x01, SP}` (R25). -/
def stackAddr (sp : Byte) : Addr := wordOf 0x01 sp

/-- `Push(v)` (R220): write, then decrement SP modulo 256. -/
def State.push (s : State) (v : Byte) : State := (s.busWrite (stackAddr s.sp) v).setSp (s.sp - 1)

/-- A byte read through the Bus, and the state after it. -/
structure ByteRead where
  value : Byte
  state : State

/-- `Pull()` (R221): increment SP modulo 256, then read. -/
def State.pull (s : State) : ByteRead :=
  let s1 := s.setSp (s.sp + 1)
  ⟨s1.byteAt (stackAddr s1.sp), s1.afterRead (stackAddr s1.sp)⟩

/-- A word on the stack, high byte first, so that it lies little-endian (R68). -/
def State.pushWord (s : State) (w : Addr) : State := (s.push (highByte w)).push (lowByte w)

/-- A word from the stack, low byte first. -/
def State.pullWord (s : State) : WordRead :=
  let lo := s.pull
  let hi := lo.state.pull
  ⟨wordOf hi.value lo.value, hi.state⟩

/-! ### Taking an interrupt and returning from one -/

def nmiVector : Addr := 0xFFFA
def resetVector : Addr := 0xFFFC
def irqVector : Addr := 0xFFFE

/-- `IntSeq(vec)` (R251): push PC high, PC low and P as it stands (R255), then load PC from the vector, low byte first. No flag
changes (R254), but for I where `IRQ_ENTRY_SETS_I` holds: then after the push of P and before the vector is read. -/
def State.intSeq (s : State) (vec : Addr) : State :=
  let s1 := (s.pushWord s.pc).push s.p
  let s2 := s1.setP (if s.config.irqEntrySetsI then statusSet s1.p .i true else s1.p)
  let w := s2.read16 vec
  w.state.setPc w.value

/-- RTI's effect on the state (R243): pull P whole, then PC low, then PC high; nothing is added. -/
def State.returnFromInterrupt (s : State) : State :=
  let r := s.pull
  let w := (r.state.setP r.value).pullWord
  w.state.setPc w.value

end Sys2Proof.Machine
end

