-- ==== Sys2Proof/Machine/Operands.lean ====
section
/-! DEFINITION. The addressing-mode resolver (R110 to R123), page crossing (R124), and the operand of a read (R128) with the
two forms that have no effective address: the immediate and the accumulator. -/

namespace Sys2Proof.Machine

/-- The formats that have an effective address, with their operand bytes (R113 to R118, R120, R121, R123). -/
inductive AddrMode where
  | zp (b : Byte)
  | zpx (b : Byte)
  | zpy (b : Byte)
  | abs (w : Addr)
  | absx (w : Addr)
  | absy (w : Addr)
  | ind (w : Addr)
  | indx (b : Byte)
  | indy (b : Byte)
  deriving DecidableEq, Repr

/-- Where an instruction that only reads takes its operand from: the byte after the opcode (R112) or memory. -/
inductive Source where
  | imm (v : Byte)
  | mem (m : AddrMode)
  deriving DecidableEq, Repr

/-- What a shift or rotate works on (R175): the accumulator (R111) or memory. -/
inductive Target where
  | acc
  | mem (m : AddrMode)
  deriving DecidableEq, Repr

/-- The length in bytes of an instruction with this operand (R91). -/
def AddrMode.length : AddrMode → Nat
  | .zp _ | .zpx _ | .zpy _ | .indx _ | .indy _ => 2
  | .abs _ | .absx _ | .absy _ | .ind _ => 3

def Source.length : Source → Nat
  | .imm _ => 2
  | .mem m => m.length

def Target.length : Target → Nat
  | .acc => 1
  | .mem m => m.length

/-- `{0x00, b}` (R94). -/
def zeroPage (b : Byte) : Addr := wordOf 0x00 b

/-- A byte as an unsigned 16-bit number: an index register added to an address (R117). -/
def indexOf (b : Byte) : Addr := b.setWidth 16

/-- `Read16ZP(p)` (R119), in both variants of `ZP_PTR_WRAP`. -/
def State.read16ZP (s : State) (p : Byte) : WordRead :=
  s.readPair (zeroPage p) (if s.config.zpPtrWrap then zeroPage (p + 1) else zeroPage p + 1)

/-- `Read16Page(a)` (R123), in both variants of `JMP_IND_PAGE_WRAP`. -/
def State.read16Page (s : State) (a : Addr) : WordRead :=
  s.readPair a (if s.config.jmpIndPageWrap then wordOf (highByte a) (lowByte a + 1) else a + 1)

/-- The page-cross test: the high bytes differ (R124). -/
def pageCrossed (base ea : Addr) : Bool := highByte ea != highByte base

/-- What `Resolve(format)` gives (R110): the effective address, whether an index addition crossed a page, and the state
after the pointer reads. -/
structure Resolved where
  ea      : Addr
  crossed : Bool
  state   : State

/-- `Resolve(format)` after the operand bytes have been fetched (R110). Only the pointer bytes are read here, low then high. -/
def resolve (m : AddrMode) (s : State) : Resolved :=
  match m with
  | .zp b => ⟨zeroPage b, false, s⟩
  | .zpx b => ⟨zeroPage (b + s.x), false, s⟩
  | .zpy b => ⟨zeroPage (b + s.y), false, s⟩
  | .abs w => ⟨w, false, s⟩
  | .absx w => ⟨w + indexOf s.x, pageCrossed w (w + indexOf s.x), s⟩
  | .absy w => ⟨w + indexOf s.y, pageCrossed w (w + indexOf s.y), s⟩
  | .ind w => let q := s.read16Page w; ⟨q.value, false, q.state⟩
  | .indx b => let q := s.read16ZP (b + s.x); ⟨q.value, false, q.state⟩
  | .indy b => let q := s.read16ZP b; ⟨q.value + indexOf s.y, pageCrossed q.value (q.value + indexOf s.y), q.state⟩

/-- An operand byte, whether its address crossed a page, and the state after all reads it took. -/
structure Operand where
  value   : Byte
  crossed : Bool
  state   : State

/-- `Operand(format)` of an instruction that only reads (R128): one read of the effective address after the pointer reads.
For the immediate that one read is the fetch of the byte itself (R112), which has been made. -/
def Source.fetch (src : Source) (s : State) : Operand :=
  match src with
  | .imm v => ⟨v, false, s⟩
  | .mem m => let r := resolve m s; ⟨r.state.byteAt r.ea, r.crossed, r.state.afterRead r.ea⟩

/-- The target of a branch (R122): relative to the next instruction, the displacement signed. -/
def branchTarget (next : Addr) (d : Byte) : Addr := next + d.signExtend 16

end Sys2Proof.Machine
end

