-- ==== Sys2Proof/Machine/Arithmetic.lean ====
section
/-! DEFINITION. Addition, subtraction and compare (R153 to R163): the shared operations, then the meaning of each row. -/

namespace Sys2Proof.Machine

/-- ADC (R153): decimal when `P.D` is set at the time of the instruction; V from the old A, the operand and the result. -/
def adc (src : Source) (base : Nat) (s : State) : State :=
  let m := src.fetch s
  let r := if s.flag .d then addDec s.config s.a m.value (s.flag .c) else addBin s.a m.value (s.flag .c)
  ((m.state.setA r.result).setP (arithStatus (overflowAdd s.a m.value r.result) r s.p)).finish
    src.length (base + m.crossed.toNat)

/-- SBC (R156). -/
def sbc (src : Source) (base : Nat) (s : State) : State :=
  let m := src.fetch s
  let r := if s.flag .d then subDec s.config s.a m.value (s.flag .c) else subBin s.a m.value (s.flag .c)
  ((m.state.setA r.result).setP (arithStatus (overflowSub s.a m.value r.result) r s.p)).finish
    src.length (base + m.crossed.toNat)

/-- A compare of the register value `r` (R160): only N, Z and C are written. -/
def compareWith (r : Byte) (src : Source) (base : Nat) (s : State) : State :=
  let m := src.fetch s
  (m.state.setP (compareStatus r m.value s.p)).finish src.length (base + m.crossed.toNat)

/-- CMP (R160). -/
def compareA (src : Source) (base : Nat) (s : State) : State := compareWith s.a src base s
/-- CPX (R161): none of its formats can cross a page. -/
def compareX (src : Source) (base : Nat) (s : State) : State := compareWith s.x src base s
/-- CPY (R162): none of its formats can cross a page. -/
def compareY (src : Source) (base : Nat) (s : State) : State := compareWith s.y src base s

/-- ADC immediate (R153). -/
def execAdcImm (v : Byte) (s : State) : Outcome := .next (adc (.imm v) 2 s)
/-- ADC zero-page (R153). -/
def execAdcZp (b : Byte) (s : State) : Outcome := .next (adc (.mem (.zp b)) 3 s)
/-- ADC zero-page,X (R153). -/
def execAdcZpx (b : Byte) (s : State) : Outcome := .next (adc (.mem (.zpx b)) 4 s)
/-- ADC absolute (R153). -/
def execAdcAbs (w : Addr) (s : State) : Outcome := .next (adc (.mem (.abs w)) 4 s)
/-- ADC absolute,X (R153). -/
def execAdcAbsx (w : Addr) (s : State) : Outcome := .next (adc (.mem (.absx w)) 4 s)
/-- ADC absolute,Y (R153). -/
def execAdcAbsy (w : Addr) (s : State) : Outcome := .next (adc (.mem (.absy w)) 4 s)
/-- ADC (zp,X) (R153). -/
def execAdcIndx (b : Byte) (s : State) : Outcome := .next (adc (.mem (.indx b)) 6 s)
/-- ADC (zp),Y (R153). -/
def execAdcIndy (b : Byte) (s : State) : Outcome := .next (adc (.mem (.indy b)) 5 s)

/-- SBC immediate (R156). -/
def execSbcImm (v : Byte) (s : State) : Outcome := .next (sbc (.imm v) 2 s)
/-- SBC zero-page (R156). -/
def execSbcZp (b : Byte) (s : State) : Outcome := .next (sbc (.mem (.zp b)) 3 s)
/-- SBC zero-page,X (R156). -/
def execSbcZpx (b : Byte) (s : State) : Outcome := .next (sbc (.mem (.zpx b)) 4 s)
/-- SBC absolute (R156). -/
def execSbcAbs (w : Addr) (s : State) : Outcome := .next (sbc (.mem (.abs w)) 4 s)
/-- SBC absolute,X (R156). -/
def execSbcAbsx (w : Addr) (s : State) : Outcome := .next (sbc (.mem (.absx w)) 4 s)
/-- SBC absolute,Y (R156). -/
def execSbcAbsy (w : Addr) (s : State) : Outcome := .next (sbc (.mem (.absy w)) 4 s)
/-- SBC (zp,X) (R156). -/
def execSbcIndx (b : Byte) (s : State) : Outcome := .next (sbc (.mem (.indx b)) 6 s)
/-- SBC (zp),Y (R156). -/
def execSbcIndy (b : Byte) (s : State) : Outcome := .next (sbc (.mem (.indy b)) 5 s)

/-- CMP immediate (R160). -/
def execCmpImm (v : Byte) (s : State) : Outcome := .next (compareA (.imm v) 2 s)
/-- CMP zero-page (R160). -/
def execCmpZp (b : Byte) (s : State) : Outcome := .next (compareA (.mem (.zp b)) 3 s)
/-- CMP zero-page,X (R160). -/
def execCmpZpx (b : Byte) (s : State) : Outcome := .next (compareA (.mem (.zpx b)) 4 s)
/-- CMP absolute (R160). -/
def execCmpAbs (w : Addr) (s : State) : Outcome := .next (compareA (.mem (.abs w)) 4 s)
/-- CMP absolute,X (R160). -/
def execCmpAbsx (w : Addr) (s : State) : Outcome := .next (compareA (.mem (.absx w)) 4 s)
/-- CMP absolute,Y (R160). -/
def execCmpAbsy (w : Addr) (s : State) : Outcome := .next (compareA (.mem (.absy w)) 4 s)
/-- CMP (zp,X) (R160). -/
def execCmpIndx (b : Byte) (s : State) : Outcome := .next (compareA (.mem (.indx b)) 6 s)
/-- CMP (zp),Y (R160). -/
def execCmpIndy (b : Byte) (s : State) : Outcome := .next (compareA (.mem (.indy b)) 5 s)

/-- CPX immediate (R161). -/
def execCpxImm (v : Byte) (s : State) : Outcome := .next (compareX (.imm v) 2 s)
/-- CPX zero-page (R161). -/
def execCpxZp (b : Byte) (s : State) : Outcome := .next (compareX (.mem (.zp b)) 3 s)
/-- CPX absolute (R161). -/
def execCpxAbs (w : Addr) (s : State) : Outcome := .next (compareX (.mem (.abs w)) 4 s)

/-- CPY immediate (R162). -/
def execCpyImm (v : Byte) (s : State) : Outcome := .next (compareY (.imm v) 2 s)
/-- CPY zero-page (R162). -/
def execCpyZp (b : Byte) (s : State) : Outcome := .next (compareY (.mem (.zp b)) 3 s)
/-- CPY absolute (R162). -/
def execCpyAbs (w : Addr) (s : State) : Outcome := .next (compareY (.mem (.abs w)) 4 s)

end Sys2Proof.Machine
end

