-- ==== Sys2Proof/Machine/Control.lean ====
section
/-! DEFINITION. Branches, jumps, subroutine call and return (R200 to R212): the shared operations, then the meaning of each row. -/

namespace Sys2Proof.Machine

/-- `Branch(cond)` (R200): 2 cycles not taken, 3 taken, 4 taken to another page than the next instruction's. -/
def branch (cond : Bool) (d : Byte) (s : State) : State :=
  let next := s.pc + 2
  let target := branchTarget next d
  if cond then (s.setPc target).setCycles (if pageCrossed next target then 4 else 3) else (s.setPc next).setCycles 2

/-- JMP (R209, R210). -/
def jump (m : AddrMode) (base : Nat) (s : State) : State :=
  let r := resolve m s
  (r.state.setPc r.ea).setCycles base

/-- JSR (R211): the address of its own last byte is pushed. -/
def callSubroutine (w : Addr) (s : State) : State :=
  let r := resolve (.abs w) s
  ((r.state.pushWord (s.pc + 2)).setPc r.ea).setCycles 6

/-- RTS (R212): 1 is added to the whole 16-bit address pulled. -/
def returnFromSubroutine (s : State) : State :=
  let w := s.pullWord
  (w.state.setPc (w.value + 1)).setCycles 6

/-- BCC (R201). -/
def execBcc (d : Byte) (s : State) : Outcome := .next (branch (!s.flag .c) d s)

/-- BCS (R202). -/
def execBcs (d : Byte) (s : State) : Outcome := .next (branch (s.flag .c) d s)

/-- BEQ (R203). -/
def execBeq (d : Byte) (s : State) : Outcome := .next (branch (s.flag .z) d s)

/-- BMI (R204). -/
def execBmi (d : Byte) (s : State) : Outcome := .next (branch (s.flag .n) d s)

/-- BNE (R205). -/
def execBne (d : Byte) (s : State) : Outcome := .next (branch (!s.flag .z) d s)

/-- BPL (R206). -/
def execBpl (d : Byte) (s : State) : Outcome := .next (branch (!s.flag .n) d s)

/-- BVC (R207). -/
def execBvc (d : Byte) (s : State) : Outcome := .next (branch (!s.flag .v) d s)

/-- BVS (R208). -/
def execBvs (d : Byte) (s : State) : Outcome := .next (branch (s.flag .v) d s)

/-- JMP absolute (R209). -/
def execJmpAbs (w : Addr) (s : State) : Outcome := .next (jump (.abs w) 3 s)
/-- JMP indirect (R210). -/
def execJmpInd (w : Addr) (s : State) : Outcome := .next (jump (.ind w) 5 s)

/-- JSR (R211). -/
def execJsr (w : Addr) (s : State) : Outcome := .next (callSubroutine w s)

/-- RTS (R212). -/
def execRts (s : State) : Outcome := .next (returnFromSubroutine s)

end Sys2Proof.Machine
end

