-- ==== Sys2Proof/Machine/IncDec.lean ====
section
/-! DEFINITION. Increments and decrements (R190 to R195): the shared operation on memory, then the meaning of each row. -/

namespace Sys2Proof.Machine

/-- One read, one write of `f` of the byte read, `SetZN` of it (R190, R191). -/
def modifyMem (f : Byte → Byte) (m : AddrMode) (base : Nat) (s : State) : State :=
  let q := resolve m s
  let r := f (q.state.byteAt q.ea)
  (((q.state.afterRead q.ea).busWrite q.ea r).setP (setZN r s.p)).finish m.length base

def incMem (m : AddrMode) (base : Nat) (s : State) : State := modifyMem (· + 1) m base s
def decMem (m : AddrMode) (base : Nat) (s : State) : State := modifyMem (· - 1) m base s

/-- INC zero-page (R190). -/
def execIncZp (b : Byte) (s : State) : Outcome := .next (incMem (.zp b) 5 s)
/-- INC zero-page,X (R190). -/
def execIncZpx (b : Byte) (s : State) : Outcome := .next (incMem (.zpx b) 6 s)
/-- INC absolute (R190). -/
def execIncAbs (w : Addr) (s : State) : Outcome := .next (incMem (.abs w) 6 s)
/-- INC absolute,X (R190). -/
def execIncAbsx (w : Addr) (s : State) : Outcome := .next (incMem (.absx w) 7 s)

/-- DEC zero-page (R191). -/
def execDecZp (b : Byte) (s : State) : Outcome := .next (decMem (.zp b) 5 s)
/-- DEC zero-page,X (R191). -/
def execDecZpx (b : Byte) (s : State) : Outcome := .next (decMem (.zpx b) 6 s)
/-- DEC absolute (R191). -/
def execDecAbs (w : Addr) (s : State) : Outcome := .next (decMem (.abs w) 6 s)
/-- DEC absolute,X (R191). -/
def execDecAbsx (w : Addr) (s : State) : Outcome := .next (decMem (.absx w) 7 s)

/-- INX (R192). -/
def execInx (s : State) : Outcome := .next ((s.loadX (s.x + 1)).finish 1 2)

/-- INY (R193). -/
def execIny (s : State) : Outcome := .next ((s.loadY (s.y + 1)).finish 1 2)

/-- DEX (R194). -/
def execDex (s : State) : Outcome := .next ((s.loadX (s.x - 1)).finish 1 2)

/-- DEY (R195). -/
def execDey (s : State) : Outcome := .next ((s.loadY (s.y - 1)).finish 1 2)

end Sys2Proof.Machine
end

