-- ==== Sys2Proof/Machine/LoadStore.lean ====
section
/-! DEFINITION. Loads, stores and register transfers (R130 to R142): the shared operations, then the meaning of each row. -/

namespace Sys2Proof.Machine

/-- LDA (R131): one cycle more when the indexing crosses a page (R126). -/
def lda (src : Source) (base : Nat) (s : State) : State :=
  let r := src.fetch s
  (r.state.loadA r.value).finish src.length (base + r.crossed.toNat)

/-- LDX (R132). -/
def ldx (src : Source) (base : Nat) (s : State) : State :=
  let r := src.fetch s
  (r.state.loadX r.value).finish src.length (base + r.crossed.toNat)

/-- LDY (R133). -/
def ldy (src : Source) (base : Nat) (s : State) : State :=
  let r := src.fetch s
  (r.state.loadY r.value).finish src.length (base + r.crossed.toNat)

/-- A store of the byte `v` (R134 to R136): the address is not read, and there is never a page-cross penalty (R126). -/
def store (v : Byte) (m : AddrMode) (base : Nat) (s : State) : State :=
  let r := resolve m s
  (r.state.busWrite r.ea v).finish m.length base

def sta (m : AddrMode) (base : Nat) (s : State) : State := store s.a m base s
def stx (m : AddrMode) (base : Nat) (s : State) : State := store s.x m base s
def sty (m : AddrMode) (base : Nat) (s : State) : State := store s.y m base s

/-- LDA immediate (R131). -/
def execLdaImm (v : Byte) (s : State) : Outcome := .next (lda (.imm v) 2 s)
/-- LDA zero-page (R131). -/
def execLdaZp (b : Byte) (s : State) : Outcome := .next (lda (.mem (.zp b)) 3 s)
/-- LDA zero-page,X (R131). -/
def execLdaZpx (b : Byte) (s : State) : Outcome := .next (lda (.mem (.zpx b)) 4 s)
/-- LDA absolute (R131). -/
def execLdaAbs (w : Addr) (s : State) : Outcome := .next (lda (.mem (.abs w)) 4 s)
/-- LDA absolute,X (R131). -/
def execLdaAbsx (w : Addr) (s : State) : Outcome := .next (lda (.mem (.absx w)) 4 s)
/-- LDA absolute,Y (R131). -/
def execLdaAbsy (w : Addr) (s : State) : Outcome := .next (lda (.mem (.absy w)) 4 s)
/-- LDA (zp,X) (R131). -/
def execLdaIndx (b : Byte) (s : State) : Outcome := .next (lda (.mem (.indx b)) 6 s)
/-- LDA (zp),Y (R131). -/
def execLdaIndy (b : Byte) (s : State) : Outcome := .next (lda (.mem (.indy b)) 5 s)

/-- LDX immediate (R132). -/
def execLdxImm (v : Byte) (s : State) : Outcome := .next (ldx (.imm v) 2 s)
/-- LDX zero-page (R132). -/
def execLdxZp (b : Byte) (s : State) : Outcome := .next (ldx (.mem (.zp b)) 3 s)
/-- LDX zero-page,Y (R132). -/
def execLdxZpy (b : Byte) (s : State) : Outcome := .next (ldx (.mem (.zpy b)) 4 s)
/-- LDX absolute (R132). -/
def execLdxAbs (w : Addr) (s : State) : Outcome := .next (ldx (.mem (.abs w)) 4 s)
/-- LDX absolute,Y (R132). -/
def execLdxAbsy (w : Addr) (s : State) : Outcome := .next (ldx (.mem (.absy w)) 4 s)

/-- LDY immediate (R133). -/
def execLdyImm (v : Byte) (s : State) : Outcome := .next (ldy (.imm v) 2 s)
/-- LDY zero-page (R133). -/
def execLdyZp (b : Byte) (s : State) : Outcome := .next (ldy (.mem (.zp b)) 3 s)
/-- LDY zero-page,X (R133). -/
def execLdyZpx (b : Byte) (s : State) : Outcome := .next (ldy (.mem (.zpx b)) 4 s)
/-- LDY absolute (R133). -/
def execLdyAbs (w : Addr) (s : State) : Outcome := .next (ldy (.mem (.abs w)) 4 s)
/-- LDY absolute,X (R133). -/
def execLdyAbsx (w : Addr) (s : State) : Outcome := .next (ldy (.mem (.absx w)) 4 s)

/-- STA zero-page (R134). -/
def execStaZp (b : Byte) (s : State) : Outcome := .next (sta (.zp b) 3 s)
/-- STA zero-page,X (R134). -/
def execStaZpx (b : Byte) (s : State) : Outcome := .next (sta (.zpx b) 4 s)
/-- STA absolute (R134). -/
def execStaAbs (w : Addr) (s : State) : Outcome := .next (sta (.abs w) 4 s)
/-- STA absolute,X (R134). -/
def execStaAbsx (w : Addr) (s : State) : Outcome := .next (sta (.absx w) 5 s)
/-- STA absolute,Y (R134). -/
def execStaAbsy (w : Addr) (s : State) : Outcome := .next (sta (.absy w) 5 s)
/-- STA (zp,X) (R134). -/
def execStaIndx (b : Byte) (s : State) : Outcome := .next (sta (.indx b) 6 s)
/-- STA (zp),Y (R134). -/
def execStaIndy (b : Byte) (s : State) : Outcome := .next (sta (.indy b) 6 s)

/-- STX zero-page (R135). -/
def execStxZp (b : Byte) (s : State) : Outcome := .next (stx (.zp b) 3 s)
/-- STX zero-page,Y (R135). -/
def execStxZpy (b : Byte) (s : State) : Outcome := .next (stx (.zpy b) 4 s)
/-- STX absolute (R135). -/
def execStxAbs (w : Addr) (s : State) : Outcome := .next (stx (.abs w) 4 s)

/-- STY zero-page (R136). -/
def execStyZp (b : Byte) (s : State) : Outcome := .next (sty (.zp b) 3 s)
/-- STY zero-page,X (R136). -/
def execStyZpx (b : Byte) (s : State) : Outcome := .next (sty (.zpx b) 4 s)
/-- STY absolute (R136). -/
def execStyAbs (w : Addr) (s : State) : Outcome := .next (sty (.abs w) 4 s)

/-- TAX (R137). -/
def execTax (s : State) : Outcome := .next ((s.loadX s.a).finish 1 2)

/-- TAY (R138). -/
def execTay (s : State) : Outcome := .next ((s.loadY s.a).finish 1 2)

/-- TXA (R139). -/
def execTxa (s : State) : Outcome := .next ((s.loadA s.x).finish 1 2)

/-- TYA (R140). -/
def execTya (s : State) : Outcome := .next ((s.loadA s.y).finish 1 2)

/-- TSX (R141). -/
def execTsx (s : State) : Outcome := .next ((s.loadX s.sp).finish 1 2)

/-- TXS (R142). -/
def execTxs (s : State) : Outcome := .next ((s.setSp s.x).finish 1 2)

end Sys2Proof.Machine
end

