-- ==== Sys2Proof/Machine/Logic.lean ====
section
/-! DEFINITION. Logic, bit test, shifts and rotates (R170 to R179): the shared operations, then the meaning of each row. -/

namespace Sys2Proof.Machine

/-- `A <- f A M; SetZN(A)` (R171 to R173). -/
def logic (f : Byte → Byte → Byte) (src : Source) (base : Nat) (s : State) : State :=
  let m := src.fetch s
  (m.state.loadA (f s.a m.value)).finish src.length (base + m.crossed.toNat)

def logicAnd (src : Source) (base : Nat) (s : State) : State := logic (· &&& ·) src base s
def logicOra (src : Source) (base : Nat) (s : State) : State := logic (· ||| ·) src base s
def logicEor (src : Source) (base : Nat) (s : State) : State := logic (· ^^^ ·) src base s

/-- BIT (R174). -/
def bitTest (src : Source) (base : Nat) (s : State) : State :=
  let m := src.fetch s
  (m.state.setP (bitStatus s.a m.value s.p)).finish src.length base

/-- `ShiftOp(f, format)` (R175): on memory exactly one read and then one write of the new value. -/
def shift (f : Byte → Bool → ByteCarry) (t : Target) (base : Nat) (s : State) : State :=
  match t with
  | .acc =>
    let r := f s.a (s.flag .c)
    ((s.setA r.result).setP (shiftStatus r s.p)).finish 1 base
  | .mem m =>
    let q := resolve m s
    let r := f (q.state.byteAt q.ea) (s.flag .c)
    (((q.state.afterRead q.ea).busWrite q.ea r.result).setP (shiftStatus r s.p)).finish m.length base

/-- AND immediate (R171). -/
def execAndImm (v : Byte) (s : State) : Outcome := .next (logicAnd (.imm v) 2 s)
/-- AND zero-page (R171). -/
def execAndZp (b : Byte) (s : State) : Outcome := .next (logicAnd (.mem (.zp b)) 3 s)
/-- AND zero-page,X (R171). -/
def execAndZpx (b : Byte) (s : State) : Outcome := .next (logicAnd (.mem (.zpx b)) 4 s)
/-- AND absolute (R171). -/
def execAndAbs (w : Addr) (s : State) : Outcome := .next (logicAnd (.mem (.abs w)) 4 s)
/-- AND absolute,X (R171). -/
def execAndAbsx (w : Addr) (s : State) : Outcome := .next (logicAnd (.mem (.absx w)) 4 s)
/-- AND absolute,Y (R171). -/
def execAndAbsy (w : Addr) (s : State) : Outcome := .next (logicAnd (.mem (.absy w)) 4 s)
/-- AND (zp,X) (R171). -/
def execAndIndx (b : Byte) (s : State) : Outcome := .next (logicAnd (.mem (.indx b)) 6 s)
/-- AND (zp),Y (R171). -/
def execAndIndy (b : Byte) (s : State) : Outcome := .next (logicAnd (.mem (.indy b)) 5 s)

/-- ORA immediate (R172). -/
def execOraImm (v : Byte) (s : State) : Outcome := .next (logicOra (.imm v) 2 s)
/-- ORA zero-page (R172). -/
def execOraZp (b : Byte) (s : State) : Outcome := .next (logicOra (.mem (.zp b)) 3 s)
/-- ORA zero-page,X (R172). -/
def execOraZpx (b : Byte) (s : State) : Outcome := .next (logicOra (.mem (.zpx b)) 4 s)
/-- ORA absolute (R172). -/
def execOraAbs (w : Addr) (s : State) : Outcome := .next (logicOra (.mem (.abs w)) 4 s)
/-- ORA absolute,X (R172). -/
def execOraAbsx (w : Addr) (s : State) : Outcome := .next (logicOra (.mem (.absx w)) 4 s)
/-- ORA absolute,Y (R172). -/
def execOraAbsy (w : Addr) (s : State) : Outcome := .next (logicOra (.mem (.absy w)) 4 s)
/-- ORA (zp,X) (R172). -/
def execOraIndx (b : Byte) (s : State) : Outcome := .next (logicOra (.mem (.indx b)) 6 s)
/-- ORA (zp),Y (R172). -/
def execOraIndy (b : Byte) (s : State) : Outcome := .next (logicOra (.mem (.indy b)) 5 s)

/-- EOR immediate (R173). -/
def execEorImm (v : Byte) (s : State) : Outcome := .next (logicEor (.imm v) 2 s)
/-- EOR zero-page (R173). -/
def execEorZp (b : Byte) (s : State) : Outcome := .next (logicEor (.mem (.zp b)) 3 s)
/-- EOR zero-page,X (R173). -/
def execEorZpx (b : Byte) (s : State) : Outcome := .next (logicEor (.mem (.zpx b)) 4 s)
/-- EOR absolute (R173). -/
def execEorAbs (w : Addr) (s : State) : Outcome := .next (logicEor (.mem (.abs w)) 4 s)
/-- EOR absolute,X (R173). -/
def execEorAbsx (w : Addr) (s : State) : Outcome := .next (logicEor (.mem (.absx w)) 4 s)
/-- EOR absolute,Y (R173). -/
def execEorAbsy (w : Addr) (s : State) : Outcome := .next (logicEor (.mem (.absy w)) 4 s)
/-- EOR (zp,X) (R173). -/
def execEorIndx (b : Byte) (s : State) : Outcome := .next (logicEor (.mem (.indx b)) 6 s)
/-- EOR (zp),Y (R173). -/
def execEorIndy (b : Byte) (s : State) : Outcome := .next (logicEor (.mem (.indy b)) 5 s)

/-- BIT zero-page (R174). -/
def execBitZp (b : Byte) (s : State) : Outcome := .next (bitTest (.mem (.zp b)) 3 s)
/-- BIT absolute (R174). -/
def execBitAbs (w : Addr) (s : State) : Outcome := .next (bitTest (.mem (.abs w)) 4 s)

/-- ASL accumulator (R176). -/
def execAslAcc (s : State) : Outcome := .next (shift shiftAsl .acc 2 s)
/-- ASL zero-page (R176). -/
def execAslZp (b : Byte) (s : State) : Outcome := .next (shift shiftAsl (.mem (.zp b)) 5 s)
/-- ASL zero-page,X (R176). -/
def execAslZpx (b : Byte) (s : State) : Outcome := .next (shift shiftAsl (.mem (.zpx b)) 6 s)
/-- ASL absolute (R176). -/
def execAslAbs (w : Addr) (s : State) : Outcome := .next (shift shiftAsl (.mem (.abs w)) 6 s)
/-- ASL absolute,X (R176). -/
def execAslAbsx (w : Addr) (s : State) : Outcome := .next (shift shiftAsl (.mem (.absx w)) 7 s)

/-- LSR accumulator (R177). -/
def execLsrAcc (s : State) : Outcome := .next (shift shiftLsr .acc 2 s)
/-- LSR zero-page (R177). -/
def execLsrZp (b : Byte) (s : State) : Outcome := .next (shift shiftLsr (.mem (.zp b)) 5 s)
/-- LSR zero-page,X (R177). -/
def execLsrZpx (b : Byte) (s : State) : Outcome := .next (shift shiftLsr (.mem (.zpx b)) 6 s)
/-- LSR absolute (R177). -/
def execLsrAbs (w : Addr) (s : State) : Outcome := .next (shift shiftLsr (.mem (.abs w)) 6 s)
/-- LSR absolute,X (R177). -/
def execLsrAbsx (w : Addr) (s : State) : Outcome := .next (shift shiftLsr (.mem (.absx w)) 7 s)

/-- ROL accumulator (R178). -/
def execRolAcc (s : State) : Outcome := .next (shift shiftRol .acc 2 s)
/-- ROL zero-page (R178). -/
def execRolZp (b : Byte) (s : State) : Outcome := .next (shift shiftRol (.mem (.zp b)) 5 s)
/-- ROL zero-page,X (R178). -/
def execRolZpx (b : Byte) (s : State) : Outcome := .next (shift shiftRol (.mem (.zpx b)) 6 s)
/-- ROL absolute (R178). -/
def execRolAbs (w : Addr) (s : State) : Outcome := .next (shift shiftRol (.mem (.abs w)) 6 s)
/-- ROL absolute,X (R178). -/
def execRolAbsx (w : Addr) (s : State) : Outcome := .next (shift shiftRol (.mem (.absx w)) 7 s)

/-- ROR accumulator (R179). -/
def execRorAcc (s : State) : Outcome := .next (shift shiftRor .acc 2 s)
/-- ROR zero-page (R179). -/
def execRorZp (b : Byte) (s : State) : Outcome := .next (shift shiftRor (.mem (.zp b)) 5 s)
/-- ROR zero-page,X (R179). -/
def execRorZpx (b : Byte) (s : State) : Outcome := .next (shift shiftRor (.mem (.zpx b)) 6 s)
/-- ROR absolute (R179). -/
def execRorAbs (w : Addr) (s : State) : Outcome := .next (shift shiftRor (.mem (.abs w)) 6 s)
/-- ROR absolute,X (R179). -/
def execRorAbsx (w : Addr) (s : State) : Outcome := .next (shift shiftRor (.mem (.absx w)) 7 s)

end Sys2Proof.Machine
end

