-- ==== Sys2Proof/Machine/Stack.lean ====
section
/-! DEFINITION. Stack instructions, flag instructions and NOP (R222 to R233): the meaning of each row. -/

namespace Sys2Proof.Machine

/-- A flag instruction (R226 to R232): one flag, one byte, two cycles. -/
def flagOp (f : Flag) (v : Bool) (s : State) : State := (s.setFlag f v).finish 1 2

/-- PLA (R223). -/
def pullA (s : State) : State :=
  let r := s.pull
  (r.state.loadA r.value).finish 1 4

/-- PLP (R225): all eight bits, none masked or forced. -/
def pullP (s : State) : State :=
  let r := s.pull
  (r.state.setP r.value).finish 1 4

/-- PHA (R222). -/
def execPha (s : State) : Outcome := .next ((s.push s.a).finish 1 3)

/-- PLA (R223). -/
def execPla (s : State) : Outcome := .next (pullA s)

/-- PHP (R224). -/
def execPhp (s : State) : Outcome := .next ((s.push s.p).finish 1 3)

/-- PLP (R225). -/
def execPlp (s : State) : Outcome := .next (pullP s)

/-- CLC (R226). -/
def execClc (s : State) : Outcome := .next (flagOp .c false s)

/-- SEC (R227). -/
def execSec (s : State) : Outcome := .next (flagOp .c true s)

/-- CLI (R228). -/
def execCli (s : State) : Outcome := .next (flagOp .i false s)

/-- SEI (R229). -/
def execSei (s : State) : Outcome := .next (flagOp .i true s)

/-- CLD (R230). -/
def execCld (s : State) : Outcome := .next (flagOp .d false s)

/-- SED (R231). -/
def execSed (s : State) : Outcome := .next (flagOp .d true s)

/-- CLV (R232). -/
def execClv (s : State) : Outcome := .next (flagOp .v false s)

/-- NOP (R233). -/
def execNop (s : State) : Outcome := .next (s.finish 1 2)

end Sys2Proof.Machine
end

