-- ==== Sys2Proof/Machine/System.lean ====
section
/-! DEFINITION. BRK, RTI and the invalid-opcode handler (R242 to R244). -/

namespace Sys2Proof.Machine

/-- BRK (R242): PC is two past the opcode; the sequence runs when I is clear, or always where `BRK_GATED_BY_I` is false; B is
set after the pushes, in the live register. -/
def breakInstr (s : State) : State :=
  let s1 := s.setPc (s.pc + 2)
  let s2 := if s.config.brkGatedByI && s.flag .i then s1 else s1.intSeq irqVector
  (s2.setFlag .b true).setCycles 7

/-- BRK (R242). -/
def execBrk (s : State) : Outcome := .next (breakInstr s)

/-- RTI (R243). -/
def execRti (s : State) : Outcome := .next (s.returnFromInterrupt.setCycles 6)

/-- INVALID (R244): a report, one byte skipped, 0 cycles, nothing else. -/
def execInvalid (op : Byte) (s : State) : Outcome :=
  .next (((s.emitReport s.pc op).setPc (s.pc + 1)).setCycles 0)

end Sys2Proof.Machine
end

