-- ==== Sys2Proof/Machine/Events.lean ====
section
/-! DEFINITION. The events beside `Step` (R9): `Reset` (R280), `IRQ` (R253), `NMI` (R252), an input to a peripheral (R60), and
`Observe` (R270); and the fetch a `Step` begins with (R240, R72). -/

namespace Sys2Proof.Machine

/-- The `Reset` event (R280), enabled in both lifecycle states: no write, exactly two reads (R281); the devices are untouched
but for what those reads do. -/
def resetEvent (s : State) : State :=
  let s1 := { s.beginEvent with a := 0x00, x := 0x00, y := 0x00, sp := 0xFF, p := 0x04, mode := .running }
  let w := s1.read16 resetVector
  w.state.setPc w.value

/-- The `IRQ` event (R253): with I set the request is discarded and leaves no trace (R33, R258). No cycle count (R263). -/
def irqEvent (s : State) : Outcome :=
  match s.mode with
  | .awaitingReset => .refused .beforeReset
  | .running => .next (if s.flag .i then s.beginEvent else s.beginEvent.intSeq irqVector)

/-- The `NMI` event (R252): unconditional. No cycle count (R263). -/
def nmiEvent (s : State) : Outcome :=
  match s.mode with
  | .awaitingReset => .refused .beforeReset
  | .running => .next (s.beginEvent.intSeq nmiVector)

/-- The outside world acts on the `k`-th device, between core events (R60); only a peripheral takes the input. -/
def deviceEvent (k : Nat) (data : List Byte) (s : State) : State :=
  { s.beginEvent with devices := s.devices.modify k (·.input data) }

/-- An instruction fetched at PC, and the state after its fetch. -/
structure FetchedInstr where
  instr : Instr
  state : State

/-- The bytes at PC (R72, R92): the opcode, then as many operand bytes as it asks for, in ascending order, each by one read.
PC itself is not moved: each instruction computes the new PC from the address of its opcode (R240). -/
def fetch (s : State) : FetchedInstr :=
  let op := s.byteAt s.pc
  let s1 := s.afterRead s.pc
  if opcodeLength op = 1 then ⟨decodeOp op 0 0, s1⟩
  else
    let b1 := s1.byteAt (s.pc + 1)
    let s2 := s1.afterRead (s.pc + 1)
    if opcodeLength op = 2 then ⟨decodeOp op b1 0, s2⟩
    else ⟨decodeOp op b1 (s2.byteAt (s.pc + 2)), s2.afterRead (s.pc + 2)⟩

/-- What `Observe` shows (R270): the Register Set and the byte at PC; no byte where a peripheral would answer, since the look
must change nothing (D31). -/
structure Observation where
  a        : Byte
  x        : Byte
  y        : Byte
  sp       : Byte
  p        : Byte
  pc       : Addr
  byteAtPc : Option Byte
  deriving DecidableEq, Repr

/-- `Observe` (R270): a function of the state, no transition. -/
def observe (s : State) : Observation := ⟨s.a, s.x, s.y, s.sp, s.p, s.pc, s.peek s.pc⟩

/-- Put a byte where a read of `a` finds it: into the first device that answers reads of `a` when that is a block, whatever
`readOnly` says; where a peripheral or nothing answers, into a read-only block of that one byte put before it (log 5). -/
def pokeDevices (a : Addr) (v : Byte) (ds : List Device) : List Device :=
  match ds with
  | [] => [.block ⟨a, a, true, v, []⟩]
  | .block b :: rest =>
    if (Device.block b).claims a true then .block (b.store a v) :: rest else .block b :: pokeDevices a v rest
  | .peripheral q :: rest =>
    if (Device.peripheral q).claims a true then .block ⟨a, a, true, v, []⟩ :: .peripheral q :: rest
    else .peripheral q :: pokeDevices a v rest

def State.poke (s : State) (a : Addr) (v : Byte) : State := { s with devices := pokeDevices a v s.devices }

end Sys2Proof.Machine
end

