-- ==== Sys2Proof/Machine/Step.lean ====
section
/-! DEFINITION. One step of the machine: the next event of the driver's schedule, or `Step` when the schedule is empty (log 6); and
the placing of an instruction where the next step fetches it. -/

namespace Sys2Proof.Machine

/-- The `Step` event (R240): enabled only in `running`; fetch at PC, decode, execute. -/
def stepEvent (s : State) : Host.Outcome State Fault Refusal :=
  match s.mode with
  | .awaitingReset => .refused .beforeReset
  | .running => exec (fetch s.beginEvent).instr (fetch s.beginEvent).state

/-- One event of R9, whole. -/
def perform (e : Event) (s : State) : Host.Outcome State Fault Refusal :=
  match e with
  | .step => stepEvent s
  | .reset => .next (resetEvent s)
  | .irq => irqEvent s
  | .nmi => nmiEvent s
  | .device k data => .next (deviceEvent k data s)

/-- One step: the driver issues the next event of its schedule, and `Step` when there is none left (R9, R262). That the
schedule is finite, with `Step` for ever after it, is the model's choice (log 6). -/
def step (s : State) : Host.Outcome State Fault Refusal :=
  match s.schedule with
  | [] => perform .step s
  | e :: rest => perform e { s with schedule := rest }

/-- The state with an instruction's bits, numbered as the opcode table numbers them, stored where the next step fetches: three
bytes at PC, in a machine that is running and has no other event before its next `Step` (log 4, 5, 6). -/
def State.withFetchWord (s : State) (nbits w : Nat) : State :=
  { (((s.poke s.pc (tableByte nbits w 0)).poke (s.pc + 1) (tableByte nbits w 1)).poke (s.pc + 2) (tableByte nbits w 2)) with
    mode := .running, schedule := [] }

end Sys2Proof.Machine
end

