-- ==== Sys2Proof/Safety.lean ====
section
/-! DEFINITION. What counts as a good state and as the end of a run, in the terms claims use. -/

namespace Sys2Proof.Machine

/-- A device's configuration and contents are well-formed: a range is in order (R54), a block's bytes are in canonical form
and inside its array, and a peripheral claims nothing outside its window (R60). R59 makes it a premise on the platform. -/
abbrev Device.wf (d : Device) : Prop :=
  match d with
  | .block b => b.start.toNat ≤ b.stop.toNat ∧ Memory.wf b.fill b.size b.data
  | .peripheral q =>
    q.start.toNat ≤ q.stop.toNat ∧ (q.readable.all q.inWindow = true) ∧ (q.writable.all q.inWindow = true)

/-- The invariant of the machine: every device is well-formed. -/
abbrev State.Inv (s : State) : Prop := ∀ d ∈ s.devices, d.wf

/-- What the construction of a device fixes (R52, R36): all of it but a block's bytes and a peripheral's state. -/
def Device.shape (d : Device) : Device :=
  match d with
  | .block b => .block { b with data := [] }
  | .peripheral q => .peripheral { q with state := ⟨[], [], []⟩ }

/-- The platform of a run (R62): the devices by what their construction fixes, in order. -/
def State.platform (s : State) : List Device := s.devices.map Device.shape

/-- The end-of-run predicate the spec suggests (R246, D30): the Break flag, looked at between events. The machine does not stop
there (log 31). -/
def State.runEnded (s : State) : Bool := s.flag .b

/-- Reads and writes of `a` reach one read-write block: the condition under which a byte written is read back (R65). -/
def State.ramAt (s : State) (a : Addr) : Prop :=
  ∃ pre b post, s.devices = pre ++ .block b :: post ∧ b.covers a = true ∧ b.readOnly = false ∧
    ∀ d ∈ pre, d.claims a true = false ∧ d.claims a false = false

end Sys2Proof.Machine
end

