-- ==== Sys2Proof/Certificates/Slice0/Obligations.lean ====
section
/-! DEFINITION. The statements for the provers. `Sys2Proof.Stated` holds what they are written with: the rows of each rule's
operand list (instruction, operand, base cycles, opcode byte: R98 and the rule itself), and the frame of an instruction.
Each statement's docstring names the rule it formalises. -/

namespace Sys2Proof.Stated
open Sys2Proof.Machine

/-- The 8-bit registers but P (R20). -/
inductive Reg where
  | a | x | y | sp
  deriving DecidableEq, Repr

def regOf (s : State) : Reg → Byte
  | .a => s.a
  | .x => s.x
  | .y => s.y
  | .sp => s.sp

/-- Every byte stored in every device, and what a look at every address gives, is as before but at the addresses `stores`. -/
def MemorySame (stores : List Addr) (s t : State) : Prop :=
  ∀ c, c ∉ stores → (∀ k, t.storedAt k c = s.storedAt k c) ∧ t.peek c = s.peek c

/-- The frame of an instruction: what it leaves unchanged but the registers, flags and bytes listed. PC and the outputs of the
event are no part of it. -/
def Frame (regs : List Reg) (flags : List Flag) (stores : List Addr) (s t : State) : Prop :=
  (∀ r, r ∉ regs → regOf t r = regOf s r) ∧ (∀ f, f ∉ flags → t.flag f = s.flag f) ∧
  t.mode = s.mode ∧ t.config = s.config ∧ t.schedule = s.schedule ∧ t.platform = s.platform ∧ MemorySame stores s t

/-- An event puts out nothing and makes no access beyond those of `s`. -/
def Quiet (s t : State) : Prop := t.devices = s.devices ∧ t.accesses = s.accesses ∧ t.report = s.report

/-- A row of an instruction's operand list that reads (R98): the instruction, its operand, its base cycles, its opcode byte. -/
structure ReadRow where
  instr  : Instr
  src    : Source
  base   : Nat
  opcode : Byte

/-- A row that works on memory (R98): the instruction, its addressing mode, its base cycles, its opcode byte. -/
structure MemRow where
  instr  : Instr
  mode   : AddrMode
  base   : Nat
  opcode : Byte


/-- The operands of LDA (R131). -/
def ldaRows (v b : Byte) (w : Addr) : List ReadRow :=
  [⟨.ldaImm v, .imm v, 2, 0xA9⟩, ⟨.ldaZp b, .mem (.zp b), 3, 0xA5⟩,
   ⟨.ldaZpx b, .mem (.zpx b), 4, 0xB5⟩, ⟨.ldaAbs w, .mem (.abs w), 4, 0xAD⟩,
   ⟨.ldaAbsx w, .mem (.absx w), 4, 0xBD⟩, ⟨.ldaAbsy w, .mem (.absy w), 4, 0xB9⟩,
   ⟨.ldaIndx b, .mem (.indx b), 6, 0xA1⟩, ⟨.ldaIndy b, .mem (.indy b), 5, 0xB1⟩]

/-- The operands of LDX (R132). -/
def ldxRows (v b : Byte) (w : Addr) : List ReadRow :=
  [⟨.ldxImm v, .imm v, 2, 0xA2⟩, ⟨.ldxZp b, .mem (.zp b), 3, 0xA6⟩,
   ⟨.ldxZpy b, .mem (.zpy b), 4, 0xB6⟩, ⟨.ldxAbs w, .mem (.abs w), 4, 0xAE⟩,
   ⟨.ldxAbsy w, .mem (.absy w), 4, 0xBE⟩]

/-- The operands of LDY (R133). -/
def ldyRows (v b : Byte) (w : Addr) : List ReadRow :=
  [⟨.ldyImm v, .imm v, 2, 0xA0⟩, ⟨.ldyZp b, .mem (.zp b), 3, 0xA4⟩,
   ⟨.ldyZpx b, .mem (.zpx b), 4, 0xB4⟩, ⟨.ldyAbs w, .mem (.abs w), 4, 0xAC⟩,
   ⟨.ldyAbsx w, .mem (.absx w), 4, 0xBC⟩]

/-- The operands of ADC (R153). -/
def adcRows (v b : Byte) (w : Addr) : List ReadRow :=
  [⟨.adcImm v, .imm v, 2, 0x69⟩, ⟨.adcZp b, .mem (.zp b), 3, 0x65⟩,
   ⟨.adcZpx b, .mem (.zpx b), 4, 0x75⟩, ⟨.adcAbs w, .mem (.abs w), 4, 0x6D⟩,
   ⟨.adcAbsx w, .mem (.absx w), 4, 0x7D⟩, ⟨.adcAbsy w, .mem (.absy w), 4, 0x79⟩,
   ⟨.adcIndx b, .mem (.indx b), 6, 0x61⟩, ⟨.adcIndy b, .mem (.indy b), 5, 0x71⟩]

/-- The operands of SBC (R156). -/
def sbcRows (v b : Byte) (w : Addr) : List ReadRow :=
  [⟨.sbcImm v, .imm v, 2, 0xE9⟩, ⟨.sbcZp b, .mem (.zp b), 3, 0xE5⟩,
   ⟨.sbcZpx b, .mem (.zpx b), 4, 0xF5⟩, ⟨.sbcAbs w, .mem (.abs w), 4, 0xED⟩,
   ⟨.sbcAbsx w, .mem (.absx w), 4, 0xFD⟩, ⟨.sbcAbsy w, .mem (.absy w), 4, 0xF9⟩,
   ⟨.sbcIndx b, .mem (.indx b), 6, 0xE1⟩, ⟨.sbcIndy b, .mem (.indy b), 5, 0xF1⟩]

/-- The operands of CMP (R160). -/
def cmpRows (v b : Byte) (w : Addr) : List ReadRow :=
  [⟨.cmpImm v, .imm v, 2, 0xC9⟩, ⟨.cmpZp b, .mem (.zp b), 3, 0xC5⟩,
   ⟨.cmpZpx b, .mem (.zpx b), 4, 0xD5⟩, ⟨.cmpAbs w, .mem (.abs w), 4, 0xCD⟩,
   ⟨.cmpAbsx w, .mem (.absx w), 4, 0xDD⟩, ⟨.cmpAbsy w, .mem (.absy w), 4, 0xD9⟩,
   ⟨.cmpIndx b, .mem (.indx b), 6, 0xC1⟩, ⟨.cmpIndy b, .mem (.indy b), 5, 0xD1⟩]

/-- The operands of CPX (R161). -/
def cpxRows (v b : Byte) (w : Addr) : List ReadRow :=
  [⟨.cpxImm v, .imm v, 2, 0xE0⟩, ⟨.cpxZp b, .mem (.zp b), 3, 0xE4⟩,
   ⟨.cpxAbs w, .mem (.abs w), 4, 0xEC⟩]

/-- The operands of CPY (R162). -/
def cpyRows (v b : Byte) (w : Addr) : List ReadRow :=
  [⟨.cpyImm v, .imm v, 2, 0xC0⟩, ⟨.cpyZp b, .mem (.zp b), 3, 0xC4⟩,
   ⟨.cpyAbs w, .mem (.abs w), 4, 0xCC⟩]

/-- The operands of AND (R171). -/
def andRows (v b : Byte) (w : Addr) : List ReadRow :=
  [⟨.andImm v, .imm v, 2, 0x29⟩, ⟨.andZp b, .mem (.zp b), 3, 0x25⟩,
   ⟨.andZpx b, .mem (.zpx b), 4, 0x35⟩, ⟨.andAbs w, .mem (.abs w), 4, 0x2D⟩,
   ⟨.andAbsx w, .mem (.absx w), 4, 0x3D⟩, ⟨.andAbsy w, .mem (.absy w), 4, 0x39⟩,
   ⟨.andIndx b, .mem (.indx b), 6, 0x21⟩, ⟨.andIndy b, .mem (.indy b), 5, 0x31⟩]

/-- The operands of ORA (R172). -/
def oraRows (v b : Byte) (w : Addr) : List ReadRow :=
  [⟨.oraImm v, .imm v, 2, 0x09⟩, ⟨.oraZp b, .mem (.zp b), 3, 0x05⟩,
   ⟨.oraZpx b, .mem (.zpx b), 4, 0x15⟩, ⟨.oraAbs w, .mem (.abs w), 4, 0x0D⟩,
   ⟨.oraAbsx w, .mem (.absx w), 4, 0x1D⟩, ⟨.oraAbsy w, .mem (.absy w), 4, 0x19⟩,
   ⟨.oraIndx b, .mem (.indx b), 6, 0x01⟩, ⟨.oraIndy b, .mem (.indy b), 5, 0x11⟩]

/-- The operands of EOR (R173). -/
def eorRows (v b : Byte) (w : Addr) : List ReadRow :=
  [⟨.eorImm v, .imm v, 2, 0x49⟩, ⟨.eorZp b, .mem (.zp b), 3, 0x45⟩,
   ⟨.eorZpx b, .mem (.zpx b), 4, 0x55⟩, ⟨.eorAbs w, .mem (.abs w), 4, 0x4D⟩,
   ⟨.eorAbsx w, .mem (.absx w), 4, 0x5D⟩, ⟨.eorAbsy w, .mem (.absy w), 4, 0x59⟩,
   ⟨.eorIndx b, .mem (.indx b), 6, 0x41⟩, ⟨.eorIndy b, .mem (.indy b), 5, 0x51⟩]

/-- The operands of BIT (R174). -/
def bitRows (_v b : Byte) (w : Addr) : List ReadRow :=
  [⟨.bitZp b, .mem (.zp b), 3, 0x24⟩, ⟨.bitAbs w, .mem (.abs w), 4, 0x2C⟩]

/-- The operands of STA (R134). -/
def staRows (b : Byte) (w : Addr) : List MemRow :=
  [⟨.staZp b, .zp b, 3, 0x85⟩, ⟨.staZpx b, .zpx b, 4, 0x95⟩, ⟨.staAbs w, .abs w, 4, 0x8D⟩,
   ⟨.staAbsx w, .absx w, 5, 0x9D⟩, ⟨.staAbsy w, .absy w, 5, 0x99⟩, ⟨.staIndx b, .indx b, 6, 0x81⟩,
   ⟨.staIndy b, .indy b, 6, 0x91⟩]

/-- The operands of STX (R135). -/
def stxRows (b : Byte) (w : Addr) : List MemRow :=
  [⟨.stxZp b, .zp b, 3, 0x86⟩, ⟨.stxZpy b, .zpy b, 4, 0x96⟩, ⟨.stxAbs w, .abs w, 4, 0x8E⟩]

/-- The operands of STY (R136). -/
def styRows (b : Byte) (w : Addr) : List MemRow :=
  [⟨.styZp b, .zp b, 3, 0x84⟩, ⟨.styZpx b, .zpx b, 4, 0x94⟩, ⟨.styAbs w, .abs w, 4, 0x8C⟩]

/-- The memory operands of ASL (R176). -/
def aslRows (b : Byte) (w : Addr) : List MemRow :=
  [⟨.aslZp b, .zp b, 5, 0x06⟩, ⟨.aslZpx b, .zpx b, 6, 0x16⟩, ⟨.aslAbs w, .abs w, 6, 0x0E⟩,
   ⟨.aslAbsx w, .absx w, 7, 0x1E⟩]

/-- The memory operands of LSR (R177). -/
def lsrRows (b : Byte) (w : Addr) : List MemRow :=
  [⟨.lsrZp b, .zp b, 5, 0x46⟩, ⟨.lsrZpx b, .zpx b, 6, 0x56⟩, ⟨.lsrAbs w, .abs w, 6, 0x4E⟩,
   ⟨.lsrAbsx w, .absx w, 7, 0x5E⟩]

/-- The memory operands of ROL (R178). -/
def rolRows (b : Byte) (w : Addr) : List MemRow :=
  [⟨.rolZp b, .zp b, 5, 0x26⟩, ⟨.rolZpx b, .zpx b, 6, 0x36⟩, ⟨.rolAbs w, .abs w, 6, 0x2E⟩,
   ⟨.rolAbsx w, .absx w, 7, 0x3E⟩]

/-- The memory operands of ROR (R179). -/
def rorRows (b : Byte) (w : Addr) : List MemRow :=
  [⟨.rorZp b, .zp b, 5, 0x66⟩, ⟨.rorZpx b, .zpx b, 6, 0x76⟩, ⟨.rorAbs w, .abs w, 6, 0x6E⟩,
   ⟨.rorAbsx w, .absx w, 7, 0x7E⟩]

/-- The operands of INC (R190). -/
def incRows (b : Byte) (w : Addr) : List MemRow :=
  [⟨.incZp b, .zp b, 5, 0xE6⟩, ⟨.incZpx b, .zpx b, 6, 0xF6⟩, ⟨.incAbs w, .abs w, 6, 0xEE⟩,
   ⟨.incAbsx w, .absx w, 7, 0xFE⟩]

/-- The operands of DEC (R191). -/
def decRows (b : Byte) (w : Addr) : List MemRow :=
  [⟨.decZp b, .zp b, 5, 0xC6⟩, ⟨.decZpx b, .zpx b, 6, 0xD6⟩, ⟨.decAbs w, .abs w, 6, 0xCE⟩,
   ⟨.decAbsx w, .absx w, 7, 0xDE⟩]

/-! ### What the results are made of -/

/-- The common end of an instruction that reads its operand with `src` and goes on to the next instruction (R110, R126, R128):
the accesses are those of the operand, PC moves past the instruction, a page crossed costs one cycle. -/
def ReadEnd (row : ReadRow) (s t : State) : Prop :=
  let m := row.src.fetch s
  t.pc = s.pc + BitVec.ofNat 16 row.src.length ∧ t.cycles = some (row.base + m.crossed.toNat) ∧
  t.devices = m.state.devices ∧ t.accesses = m.state.accesses ∧ t.report = s.report

/-- A row that puts the byte `v` into `r` and sets Z and N from it. -/
def WritesRegister (row : ReadRow) (r : Reg) (v : Byte) (s : State) : Prop :=
  (encode row.instr).head? = some row.opcode ∧
  ∃ t, exec row.instr s = .next t ∧ regOf t r = v ∧ t.flag .z = (v == 0) ∧ t.flag .n = v.getLsbD 7 ∧
    ReadEnd row s t ∧ Frame [r] [.n, .z] [] s t

/-- A store of the byte `v`. -/
def StoresByte (row : MemRow) (v : Byte) (s : State) : Prop :=
  let q := resolve row.mode s
  (encode row.instr).head? = some row.opcode ∧
  ∃ t, exec row.instr s = .next t ∧ t.devices = busAfterWrite q.state.devices q.ea v ∧
    t.accesses = q.state.accesses ++ [.write q.ea v] ∧ (s.ramAt q.ea → t.peek q.ea = some v) ∧
    t.pc = s.pc + BitVec.ofNat 16 row.mode.length ∧ t.cycles = some row.base ∧ t.report = s.report ∧
    Frame [] [] [q.ea] s t

/-- A one-byte instruction of two cycles that puts the byte `v` into `r`, sets Z and N from it, and touches nothing else. -/
def RegisterOp (i : Instr) (opcode : Byte) (r : Reg) (v : Byte) (s : State) : Prop :=
  encode i = [opcode] ∧
  ∃ t, exec i s = .next t ∧ regOf t r = v ∧ t.flag .z = (v == 0) ∧ t.flag .n = v.getLsbD 7 ∧ t.pc = s.pc + 1 ∧
    t.cycles = some 2 ∧ Quiet s t ∧ Frame [r] [.n, .z] [] s t

/-- A read-modify-write of memory (R175, R190): one read of the byte, one write of `f` of it, flags as listed. -/
def ModifiesByte (row : MemRow) (f : Nat → Nat) (flags : List Flag) (s : State) (more : State → Prop) : Prop :=
  let q := resolve row.mode s
  let v := q.state.byteAt q.ea
  let r : Byte := BitVec.ofNat 8 (f v.toNat)
  (encode row.instr).head? = some row.opcode ∧ f v.toNat < 256 ∧
  ∃ t, exec row.instr s = .next t ∧ t.devices = busAfterWrite (busAfterRead q.state.devices q.ea) q.ea r ∧
    t.accesses = q.state.accesses ++ [.read q.ea v, .write q.ea r] ∧ (s.ramAt q.ea → t.peek q.ea = some r) ∧
    t.flag .z = decide (f v.toNat = 0) ∧ t.flag .n = decide (128 ≤ f v.toNat) ∧ more t ∧
    t.pc = s.pc + BitVec.ofNat 16 row.mode.length ∧ t.cycles = some row.base ∧ t.report = s.report ∧
    Frame [] flags [q.ea] s t

/-- One shift or rotate on numbers: the result and the new carry, from the byte and the old carry (R176 to R179). -/
structure ShiftRule where
  result : Nat → Nat → Nat
  carry  : Nat → Bool

def aslRule : ShiftRule := ⟨fun v _ => v * 2 % 256, fun v => decide (128 ≤ v)⟩
def lsrRule : ShiftRule := ⟨fun v _ => v / 2, fun v => decide (v % 2 = 1)⟩
def rolRule : ShiftRule := ⟨fun v c => v * 2 % 256 + c, fun v => decide (128 ≤ v)⟩
def rorRule : ShiftRule := ⟨fun v c => v / 2 + c * 128, fun v => decide (v % 2 = 1)⟩

/-- A memory row of a shift or rotate. -/
def ShiftsByte (row : MemRow) (g : ShiftRule) (s : State) : Prop :=
  let q := resolve row.mode s
  ModifiesByte row (fun v => g.result v (s.flag .c).toNat) [.n, .z, .c] s
    fun t => t.flag .c = g.carry (q.state.byteAt q.ea).toNat

/-- The accumulator row of a shift or rotate. -/
def ShiftsAccumulator (i : Instr) (opcode : Byte) (g : ShiftRule) (s : State) : Prop :=
  let r := g.result s.a.toNat (s.flag .c).toNat
  encode i = [opcode] ∧
  ∃ t, exec i s = .next t ∧ t.a.toNat = r ∧ t.flag .c = g.carry s.a.toNat ∧ t.flag .z = decide (r = 0) ∧
    t.flag .n = decide (128 ≤ r) ∧ t.pc = s.pc + 1 ∧ t.cycles = some 2 ∧ Quiet s t ∧ Frame [.a] [.n, .z, .c] [] s t

/-- The number a packed BCD byte stands for (R155, R165). -/
def dec (v : Byte) : Nat := 10 * (v.toNat / 16) + v.toNat % 16

/-- A compare of the register value `r` (R160, R163). -/
def Compares (row : ReadRow) (r : Byte) (s : State) : Prop :=
  let m := row.src.fetch s
  (encode row.instr).head? = some row.opcode ∧
  ∃ t, exec row.instr s = .next t ∧ t.flag .c = decide (m.value.toNat ≤ r.toNat) ∧
    t.flag .z = decide (r.toNat = m.value.toNat) ∧
    t.flag .n = decide (128 ≤ (r.toNat + 256 - m.value.toNat) % 256) ∧
    ReadEnd row s t ∧ Frame [] [.n, .z, .c] [] s t

/-- A branch on the condition `cond` (R200). -/
def Branches (i : Byte → Instr) (opcode : Byte) (cond : State → Bool) : Prop :=
  ∀ (d : Byte) (s : State),
    let next := (s.pc.toNat + 2) % 65536
    encode (i d) = [opcode, d] ∧
    ∃ t, exec (i d) s = .next t ∧
      (cond s = false → t.pc.toNat = next ∧ t.cycles = some 2) ∧
      (cond s = true → (t.pc.toNat : Int) = ((next : Int) + d.toInt) % 65536 ∧
        t.cycles = some (if t.pc.toNat / 256 ≠ next / 256 then 4 else 3)) ∧
      Quiet s t ∧ Frame [] [] [] s t

/-- A flag instruction (R226 to R232): one flag becomes `v`, one byte, two cycles, nothing else. -/
def SetsFlag (i : Instr) (opcode : Byte) (f : Flag) (v : Bool) (s : State) : Prop :=
  encode i = [opcode] ∧
  ∃ t, exec i s = .next t ∧ t.flag f = v ∧ t.pc = s.pc + 1 ∧ t.cycles = some 2 ∧ Quiet s t ∧ Frame [] [f] [] s t

/-- `t` is what the interrupt sequence through `vec` makes of `s` (R251): PC high, PC low and P pushed in that order, the
vector's two bytes read low then high, PC loaded from them, SP three less; no flag changes, but I where `IRQ_ENTRY_SETS_I`
holds (R254), and B where the caller says so. -/
def Entered (vec : Addr) (flags : List Flag) (s t : State) : Prop :=
  let a1 := stackAddr s.sp
  let a2 := stackAddr (s.sp - 1)
  let a3 := stackAddr (s.sp - 2)
  let ds := busAfterWrite (busAfterWrite (busAfterWrite s.devices a1 (highByte s.pc)) a2 (lowByte s.pc)) a3 s.p
  let lo := busReadValue ds vec
  let hi := busReadValue (busAfterRead ds vec) (vec + 1)
  t.pc = wordOf hi lo ∧ t.sp = s.sp - 3 ∧ t.devices = busAfterRead (busAfterRead ds vec) (vec + 1) ∧
  t.accesses = s.accesses ++ [.write a1 (highByte s.pc), .write a2 (lowByte s.pc), .write a3 s.p, .read vec lo,
    .read (vec + 1) hi] ∧
  t.flag .i = (s.flag .i || s.config.irqEntrySetsI) ∧ t.report = s.report ∧ Frame [.sp] (.i :: flags) [a1, a2, a3] s t

/-- The flags an instruction writes (the table of R27); for BRK without `IRQ_ENTRY_SETS_I`. -/
def flagsWritten : Mnemonic → List Flag
  | .ADC | .SBC => [.n, .v, .z, .c]
  | .AND | .ORA | .EOR => [.n, .z]
  | .ASL | .LSR | .ROL | .ROR => [.n, .z, .c]
  | .BIT => [.n, .v, .z]
  | .CMP | .CPX | .CPY => [.n, .z, .c]
  | .INC | .DEC | .INX | .INY | .DEX | .DEY => [.n, .z]
  | .LDA | .LDX | .LDY | .TAX | .TAY | .TXA | .TYA | .TSX | .PLA => [.n, .z]
  | .PLP | .RTI => [.n, .v, .u, .b, .d, .i, .z, .c]
  | .CLC | .SEC => [.c]
  | .CLD | .SED => [.d]
  | .CLI | .SEI => [.i]
  | .CLV => [.v]
  | .BRK => [.b]
  | .TXS | .STA | .STX | .STY | .PHA | .PHP | .JMP | .JSR | .RTS | .NOP | .INVALID => []
  | .BCC | .BCS | .BEQ | .BMI | .BNE | .BPL | .BVC | .BVS => []

/-- The registers an instruction writes (R21, R22, R23, R25); a shift writes A in its accumulator form only. -/
def registersWritten (i : Instr) : List Reg :=
  match i.mnemonic with
  | .LDA | .TXA | .TYA | .ADC | .SBC | .AND | .ORA | .EOR => [.a]
  | .PLA => [.a, .sp]
  | .ASL | .LSR | .ROL | .ROR => if i.format = .acc then [.a] else []
  | .LDX | .TAX | .TSX | .INX | .DEX => [.x]
  | .LDY | .TAY | .INY | .DEY => [.y]
  | .TXS | .PHA | .PHP | .PLP | .JSR | .RTS | .RTI | .BRK => [.sp]
  | .STA | .STX | .STY | .CMP | .CPX | .CPY | .BIT | .INC | .DEC | .JMP | .NOP | .INVALID => []
  | .CLC | .SEC | .CLI | .SEI | .CLD | .SED | .CLV => []
  | .BCC | .BCS | .BEQ | .BMI | .BNE | .BPL | .BVC | .BVS => []

/-- The control transfers (R215): every other instruction leaves PC at the address after its last byte. -/
def transfersControl (i : Instr) : Bool :=
  match i.mnemonic with
  | .BCC | .BCS | .BEQ | .BMI | .BNE | .BPL | .BVC | .BVS | .JMP | .JSR | .RTS | .RTI | .BRK => true
  | _ => false

/-- The instructions that make a bus write (R72 with the rules of each family). -/
def mayStore (i : Instr) : Bool :=
  match i.mnemonic with
  | .STA | .STX | .STY | .INC | .DEC | .PHA | .PHP | .JSR | .BRK => true
  | .ASL | .LSR | .ROL | .ROR => i.format != .acc
  | _ => false

end Sys2Proof.Stated

open Sys2Proof Sys2Proof.Machine Sys2Proof.Stated

/-! ### Encoding -/

/-- Decoding the encoding of a well-formed instruction, whatever bytes follow, gives that instruction and those bytes: no
operand bit is dropped (R90, R93, R98, R104). -/
def Obligations.DecodeOfEncodeIsIdentity : Prop :=
  ∀ (i : Instr) (rest : List Byte), i.wf = true → decode (encode i ++ rest) = .ok (i, rest)

/-- Whatever bytes the decoder reads, it reads a well-formed instruction whose encoding is exactly the bytes it took: each
encoding has one meaning (R90, R96, R98, R100, R104). -/
def Obligations.EncodeOfDecodeIsIdentity : Prop :=
  ∀ (bytes rest : List Byte) (i : Instr), decode bytes = .ok (i, rest) → i.wf = true ∧ encode i ++ rest = bytes

/-- The map is total with exactly the 105 bytes of R100 invalid, each one byte long, and the opcode byte alone gives the length
(R96, R97, R100). -/
def Obligations.OpcodeMapIsTotal : Prop :=
  invalidOpcodes.length = 105 ∧ invalidOpcodes.Nodup ∧
  ∀ op b1 b2 : Byte, (decodeOp op b1 b2).length = opcodeLength op ∧
    (op ∈ invalidOpcodes ↔ decodeOp op b1 b2 = .invalid op) ∧
    (op ∈ invalidOpcodes ↔ (decodeOp op b1 b2).mnemonic = .INVALID) ∧ (op ∈ invalidOpcodes → opcodeLength op = 1)

/-- One word of each family, written out from the opcode map (R98, R99) and the examples of R102. -/
def Obligations.SampleWordsDecode : Prop :=
  decode [0xA9, 0x10] = .ok (.ldaImm 0x10, []) ∧ decode [0xB9, 0x34, 0x12] = .ok (.ldaAbsy 0x1234, []) ∧
  decode [0x91, 0x10] = .ok (.staIndy 0x10, []) ∧ decode [0xE1, 0x10] = .ok (.sbcIndx 0x10, []) ∧
  decode [0x0A] = .ok (.aslAcc, []) ∧ decode [0x96, 0x10] = .ok (.stxZpy 0x10, []) ∧
  decode [0xFE, 0xFF, 0x02] = .ok (.incAbsx 0x02FF, []) ∧ decode [0xD0, 0xFB] = .ok (.bne 0xFB, []) ∧
  decode [0x6C, 0x34, 0x12] = .ok (.jmpInd 0x1234, []) ∧ decode [0x48, 0x68] = .ok (.pha, [0x68]) ∧
  decode [0x00, 0xEA] = .ok (.brk, [0xEA]) ∧ decode [0x80, 0x00] = .ok (.invalid 0x80, [0x00])

/-! ### The step -/

/-- A step runs the decoded instruction (R240, R72, R92; the schedule is the model's, log 6): the opcode and then the operand
bytes are read in ascending order, and the step is `exec` of the instruction they decode to, at the state after exactly those
reads. -/
def Obligations.StepRunsTheDecodedInstruction : Prop :=
  ∀ (s : State) (i : Instr) (rest : List Byte),
    s.mode = .running → (s.schedule.head? = none ∨ s.schedule.head? = some .step) →
    let s0 := { s.beginEvent with schedule := s.schedule.tail }
    let s1 := s0.afterRead s.pc
    let s2 := s1.afterRead (s.pc + 1)
    let s3 := s2.afterRead (s.pc + 2)
    decode [s0.byteAt s.pc, s1.byteAt (s.pc + 1), s2.byteAt (s.pc + 2)] = .ok (i, rest) →
    step s = exec i (if i.length = 1 then s1 else if i.length = 2 then s2 else s3)

/-- Where blocks answer at PC, a step is `exec` of the instruction their bytes decode to, at the state itself but for the
outputs: no device changes, and the accesses are the instruction's bytes in order (R72, R79, R240; the schedule is the model's,
log 6). -/
def Obligations.StepFetchesFromBlocks : Prop :=
  ∀ (s : State) (i : Instr) (b0 b1 b2 : Byte) (rest : List Byte),
    s.mode = .running → s.schedule = [] →
    s.peek s.pc = some b0 → s.peek (s.pc + 1) = some b1 → s.peek (s.pc + 2) = some b2 →
    decode [b0, b1, b2] = .ok (i, rest) →
    step s = exec i { s.beginEvent with
      accesses := [BusAccess.read s.pc b0, .read (s.pc + 1) b1, .read (s.pc + 2) b2].take i.length }

/-- `Step` is total (R241): in `running`, whatever the registers and the devices hold, it has a successor state and a cycle count,
and `running` it stays, so that `Step` is enabled again at once. No other event has another outcome there: `Reset` (R280), `NMI`
(R252), `IRQ` (R253), an input to a peripheral (R60). That an empty schedule is a `Step` is the model's choice (log 6). -/
def Obligations.StepNeverStopsWhenRunning : Prop :=
  ∀ s : State, s.mode = .running →
    ∃ t, step s = .next t ∧ t.mode = .running ∧
      (s.schedule.head? = none ∨ s.schedule.head? = some .step → ∃ n, t.cycles = some n)

/-- An instruction placed with `withFetchWord` is the very next one run, on any platform and in either mode: the step is `exec` of
what the decoder reads from the word, and its fetch reads the placed bytes and changes no device (R240, R104; a placed byte stands
in a block that answers reads there, R63, and a block's read has no effect, R56). The placing and the empty schedule it leaves are
the model's choice (log 4, 5, 6). -/
def Obligations.PlacedInstructionIsTheNextOneRun : Prop :=
  ∀ (s : State) (nbits w : Nat) (i : Instr), decodeTableWord nbits w = some i →
    let t := s.withFetchWord nbits w
    step t = exec i { t.beginEvent with
      accesses := [BusAccess.read s.pc (tableByte nbits w 0), .read (s.pc + 1) (tableByte nbits w 1),
        .read (s.pc + 2) (tableByte nbits w 2)].take i.length }

/-- Before the first `Reset`, `Step`, `IRQ` and `NMI` are not enabled: the model refuses them (R32, D21; log 7), and `Reset` runs
(R280). That an empty schedule is a `Step` is the model's choice (log 6). An input to a peripheral is no event of the core (R60):
this statement does not speak of it. -/
def Obligations.BeforeResetStepIrqNmiAreRefused : Prop :=
  ∀ s : State, s.mode = .awaitingReset →
    ((s.schedule = [] ∨ ∃ e rest, s.schedule = e :: rest ∧ (e = .step ∨ e = .irq ∨ e = .nmi)) →
      step s = .refused .beforeReset) ∧
    (∀ rest, s.schedule = .reset :: rest → ∃ t, step s = .next t ∧ t.mode = .running)

/-- Only `Reset` changes the lifecycle state (R32: "No other event changes `mode`"; the schedule is the model's, log 6). -/
def Obligations.OnlyResetChangesMode : Prop :=
  ∀ s t : State, step s = .next t → t.mode ≠ s.mode → s.schedule.head? = some .reset ∧ t.mode = .running

/-- The cycle count of an instruction is 0, for an invalid opcode and only there, or 2 to 7 (R10). -/
def Obligations.CycleCountsAreInRange : Prop :=
  ∀ (i : Instr) (s t : State), exec i s = .next t →
    ∃ n, t.cycles = some n ∧ (n = 0 ↔ i.mnemonic = .INVALID) ∧ (n = 0 ∨ (2 ≤ n ∧ n ≤ 7))

/-- The outputs of the event before influence nothing (R244, R288). -/
def Obligations.OutputsInfluenceNothing : Prop :=
  ∀ (s : State) (c : Option Nat) (r : Option InvalidReport) (l : List BusAccess),
    step { s with cycles := c, report := r, accesses := l } = step s

/-! ### Reset and the invariant -/

/-- The `Reset` event from any state, in either mode (R280): the register values, PC from the vector. That it makes exactly two
reads, low byte first, no write, and leaves the devices alone is the spec's choice (R281, D16, D32; log 25), and that the event
stands at the head of a schedule is the model's (log 6). -/
def Obligations.ResetEventValues : Prop :=
  ∀ (s : State) (rest : List Event), s.schedule = .reset :: rest →
    let lo := s.byteAt 0xFFFC
    let hi := (s.afterRead 0xFFFC).byteAt 0xFFFD
    ∃ t, step s = .next t ∧ t.a = 0x00 ∧ t.x = 0x00 ∧ t.y = 0x00 ∧ t.sp = 0xFF ∧ t.p = 0x04 ∧ t.pc = wordOf hi lo ∧
      t.mode = .running ∧ t.accesses = [.read 0xFFFC lo, .read 0xFFFD hi] ∧ t.cycles = none ∧ t.report = none ∧
      t.devices = ((s.afterRead 0xFFFC).afterRead 0xFFFD).devices ∧ t.platform = s.platform ∧ t.config = s.config ∧
      t.schedule = rest ∧ MemorySame [] s t

/-- `State.reset` is what the `Reset` event makes of any state on the platform the model chose for it (log 1, 2, 3: one RAM of
zeros and the default parameters are the model's choice; so is the schedule, log 6). -/
def Obligations.ResetStateIsAResetEvent : Prop :=
  ∀ s : State, s.devices = [.block flatRam] → s.config = .standard → s.schedule = [.reset] → step s = .next State.reset

/-- The invariant holds at reset (on the model's platform, log 1). -/
def Obligations.ResetMeetsTheInvariant : Prop := State.reset.Inv ∧ State.reset.mode = .running

/-- Every step, whatever its event, keeps every block's bytes in canonical form and inside its array, and every device's
construction in order (R54, R56, R60). -/
def Obligations.StepKeepsTheInvariant : Prop :=
  ∀ s t : State, s.Inv → step s = .next t → t.Inv

/-- The platform is fixed for a run: no step changes the device list, what construction fixes of a device, or the parameters
(R36, R52, R62; R8). That the device list is fixed for a run is the spec's choice (D33; log 33), and that the parameters are data in
the state, the same for a run, is the model's (log 24). -/
def Obligations.StepKeepsThePlatform : Prop :=
  ∀ s t : State, step s = .next t → t.platform = s.platform ∧ t.config = s.config

/-! ### Whole-machine rules -/

/-- An instruction writes no flag but those the table of R27 gives it; with `IRQ_ENTRY_SETS_I`, BRK may write I too (R254). -/
def Obligations.FlagsWrittenAreThoseOfTheTable : Prop :=
  ∀ (i : Instr) (s t : State) (f : Flag), exec i s = .next t → f ∉ flagsWritten i.mnemonic →
    (i.mnemonic = .BRK → f = .i → s.config.irqEntrySetsI = false) → t.flag f = s.flag f

/-- An instruction writes no register but those R21, R22, R23 and R25 give it. -/
def Obligations.RegistersWrittenAreThoseListed : Prop :=
  ∀ (i : Instr) (s t : State) (r : Reg), exec i s = .next t → r ∉ registersWritten i → regOf t r = regOf s r

/-- An instruction that is no control transfer leaves PC at the address after its last byte (R24, R215). -/
def Obligations.PlainInstructionsAdvancePc : Prop :=
  ∀ (i : Instr) (s t : State), exec i s = .next t → transfersControl i = false →
    t.pc = s.pc + BitVec.ofNat 16 i.length

/-- An instruction that stores nothing makes no bus write and changes no stored byte; every instruction keeps mode, parameters,
schedule and platform, and only appends to the accesses (R72, R71). -/
def Obligations.NonStoringInstructionsKeepMemory : Prop :=
  ∀ (i : Instr) (s t : State), exec i s = .next t →
    (t.mode = s.mode ∧ t.config = s.config ∧ t.schedule = s.schedule ∧ t.platform = s.platform) ∧
    ∃ l, t.accesses = s.accesses ++ l ∧
      (mayStore i = false → MemorySame [] s t ∧ ∀ a v, .write a v ∉ l) ∧
      MemorySame (l.filterMap fun | .write a _ => some a | .read _ _ => none) s t

/-! ### The Bus and its devices -/

/-- `BusRead(a)` (R63): the first claiming device answers and alone sees the read; with none the value is 0x00. -/
def Obligations.BusReadReachesTheFirstClaimant : Prop :=
  ∀ (s : State) (a : Addr),
    (∀ pre d post, s.devices = pre ++ d :: post → (∀ e ∈ pre, e.claims a true = false) → d.claims a true = true →
      s.byteAt a = d.readValue a ∧ (s.afterRead a).devices = pre ++ d.afterRead a :: post) ∧
    ((∀ d ∈ s.devices, d.claims a true = false) → s.byteAt a = 0x00 ∧ (s.afterRead a).devices = s.devices)

/-- `BusWrite(a, v)` (R64): the first device that claims the write takes it, alone; with none nothing changes (log 25: D24). -/
def Obligations.BusWriteReachesTheFirstClaimant : Prop :=
  ∀ (s : State) (a : Addr) (v : Byte),
    (∀ pre d post, s.devices = pre ++ d :: post → (∀ e ∈ pre, e.claims a false = false) → d.claims a false = true →
      (s.busWrite a v).devices = pre ++ d.write a v :: post) ∧
    ((∀ d ∈ s.devices, d.claims a false = false) → (s.busWrite a v).devices = s.devices)

/-- A block device (R55, R56): it claims its range for reads, and for writes when it is not read-only; a byte written at an
address of its range is read back there, every other byte of the range as before; a read changes nothing. -/
def Obligations.BlockDeviceReadsBackWrites : Prop :=
  ∀ (b : Block) (a c : Addr) (v : Byte) (r : Bool),
    ((Device.block b).claims a r = true ↔ b.start.toNat ≤ a.toNat ∧ a.toNat ≤ b.stop.toNat ∧ (r = true ∨ b.readOnly = false)) ∧
    (Device.block b).afterRead a = .block b ∧
    (b.readOnly = true → (Device.block b).write a v = .block b) ∧
    (b.readOnly = false → b.covers a = true → b.covers c = true →
      ((Device.block b).write a v).readValue c = if c = a then v else (Device.block b).readValue c)

/-- Where one RAM block answers both directions of `a`, the byte written is the next one read, and it is the only byte that
changed (R65). -/
def Obligations.RamReturnsTheByteWritten : Prop :=
  ∀ (s : State) (a : Addr) (v : Byte), s.ramAt a →
    (s.busWrite a v).byteAt a = v ∧ (s.busWrite a v).peek a = some v ∧ MemorySame [a] s (s.busWrite a v)

/-- A RAM behind a ROM (R57): a write to an address both cover lands in the RAM, and reads of it keep returning the ROM's byte. -/
def Obligations.WriteBehindRomIsHidden : Prop :=
  ∀ (s : State) (rom ram : Block) (a : Addr) (v : Byte), s.devices = [.block rom, .block ram] → rom.readOnly = true →
    ram.readOnly = false → rom.covers a = true → ram.covers a = true →
    (s.busWrite a v).byteAt a = s.byteAt a ∧ s.byteAt a = rom.read a ∧
    (s.busWrite a v).storedAt 1 a = some v ∧ (s.busWrite a v).storedAt 0 a = s.storedAt 0 a

/-! ### Addressing modes -/

/-- The zero-page modes (R113, R114, R115): the sum wraps inside page 0, nothing crosses, nothing is read. -/
def Obligations.ZeroPageModesResolve : Prop :=
  ∀ (b : Byte) (s : State),
    (∀ m ∈ [AddrMode.zp b, .zpx b, .zpy b], (resolve m s).crossed = false ∧ (resolve m s).state = s ∧ m.length = 2) ∧
    (resolve (.zp b) s).ea.toNat = b.toNat ∧
    (resolve (.zpx b) s).ea.toNat = (b.toNat + s.x.toNat) % 256 ∧
    (resolve (.zpy b) s).ea.toNat = (b.toNat + s.y.toNat) % 256

/-- The absolute modes (R116, R117, R118): the sum wraps at 16 bits, and a page is crossed when the high bytes differ. The wrap at
16 bits, and that it counts as a crossing, are the spec's choice (R117, D15; log 26). -/
def Obligations.AbsoluteModesResolve : Prop :=
  ∀ (w : Addr) (s : State),
    (∀ m ∈ [AddrMode.abs w, .absx w, .absy w], (resolve m s).state = s ∧ m.length = 3 ∧
      ((resolve m s).crossed = true ↔ (resolve m s).ea.toNat / 256 ≠ w.toNat / 256)) ∧
    (resolve (.abs w) s).ea = w ∧
    (resolve (.absx w) s).ea.toNat = (w.toNat + s.x.toNat) % 65536 ∧
    (resolve (.absy w) s).ea.toNat = (w.toNat + s.y.toNat) % 65536

/-- The indirect modes through a zero-page pointer (R119, R120, R121), in both variants of `ZP_PTR_WRAP`: low byte first
(D16; log 22, 25, 35). That the sum of (zp),Y wraps at 16 bits, and that the wrap counts as a crossing, are the spec's choice (R121,
D15; log 26). -/
def Obligations.IndirectModesResolve : Prop :=
  ∀ (b : Byte) (s : State),
    let hiAddr := fun p : Nat => if s.config.zpPtrWrap then (p + 1) % 256 else p + 1
    let at16 := fun n : Nat => (BitVec.ofNat 16 n : Addr)
    (let p := (b.toNat + s.x.toNat) % 256
     let s1 := s.afterRead (at16 p)
     (resolve (.indx b) s).ea.toNat = (s1.byteAt (at16 (hiAddr p))).toNat * 256 + (s.byteAt (at16 p)).toNat ∧
     (resolve (.indx b) s).crossed = false ∧ (resolve (.indx b) s).state = s1.afterRead (at16 (hiAddr p))) ∧
    (let p := b.toNat
     let s1 := s.afterRead (at16 p)
     let base := (s1.byteAt (at16 (hiAddr p))).toNat * 256 + (s.byteAt (at16 p)).toNat
     (resolve (.indy b) s).ea.toNat = (base + s.y.toNat) % 65536 ∧
     ((resolve (.indy b) s).crossed = true ↔ (resolve (.indy b) s).ea.toNat / 256 ≠ base / 256) ∧
     (resolve (.indy b) s).state = s1.afterRead (at16 (hiAddr p)))

/-- The operand of an instruction that reads (R112, R128): the immediate byte with no further access, or one read of the
effective address after the pointer reads. -/
def Obligations.OperandIsReadOnce : Prop :=
  ∀ (v : Byte) (m : AddrMode) (s : State),
    ((Source.imm v).fetch s).value = v ∧ ((Source.imm v).fetch s).crossed = false ∧ ((Source.imm v).fetch s).state = s ∧
    (let q := resolve m s
     let o := (Source.mem m).fetch s
     o.value = q.state.byteAt q.ea ∧ o.crossed = q.crossed ∧ o.state = q.state.afterRead q.ea ∧
     o.state.accesses = q.state.accesses ++ [.read q.ea o.value] ∧ Frame [] [] [] s o.state ∧ o.state.pc = s.pc)

/-! ### Loads, stores, transfers -/

/-- LDA, LDX, LDY in every form (R131, R132, R133). -/
def Obligations.LoadsWriteTheirRegister : Prop :=
  ∀ (v b : Byte) (w : Addr) (s : State),
    (∀ row ∈ ldaRows v b w, WritesRegister row .a (row.src.fetch s).value s) ∧
    (∀ row ∈ ldxRows v b w, WritesRegister row .x (row.src.fetch s).value s) ∧
    (∀ row ∈ ldyRows v b w, WritesRegister row .y (row.src.fetch s).value s)

/-- STA, STX, STY in every form (R134, R135, R136), through the Bus write of R64. That a write no device claims is dropped is the
spec's choice (R64, D24; log 25), made in `busAfterWrite`; this statement has no clause of its own for it. -/
def Obligations.StoresWriteTheirByte : Prop :=
  ∀ (b : Byte) (w : Addr) (s : State),
    (∀ row ∈ staRows b w, StoresByte row s.a s) ∧
    (∀ row ∈ stxRows b w, StoresByte row s.x s) ∧
    (∀ row ∈ styRows b w, StoresByte row s.y s)

/-- TAX, TAY, TXA, TYA, TSX set Z and N; TXS touches no flag (R137 to R142). -/
def Obligations.TransfersCopyTheirRegister : Prop :=
  ∀ s : State,
    RegisterOp .tax 0xAA .x s.a s ∧ RegisterOp .tay 0xA8 .y s.a s ∧ RegisterOp .txa 0x8A .a s.x s ∧
    RegisterOp .tya 0x98 .a s.y s ∧ RegisterOp .tsx 0xBA .x s.sp s ∧
    (encode .txs = [0x9A] ∧ ∃ t, exec .txs s = .next t ∧ t.sp = s.x ∧ t.pc = s.pc + 1 ∧ t.cycles = some 2 ∧ Quiet s t ∧
      Frame [.sp] [] [] s t)

/-! ### Arithmetic -/

/-- ADC in binary mode (R152, R153, R154): the sum modulo 256, C when it exceeds 255, V when the signed sum does not fit (V is the
spec's reading, log 17). -/
def Obligations.AdcAddsInBinary : Prop :=
  ∀ (v b : Byte) (w : Addr) (s : State), s.flag .d = false → ∀ row ∈ adcRows v b w,
    let m := (row.src.fetch s).value
    let sum := s.a.toNat + m.toNat + (s.flag .c).toNat
    let signed : Int := s.a.toInt + m.toInt + ((s.flag .c).toNat : Int)
    (encode row.instr).head? = some row.opcode ∧
    ∃ t, exec row.instr s = .next t ∧ t.a.toNat = sum % 256 ∧ t.flag .c = decide (255 < sum) ∧
      t.flag .v = decide (signed < -128 ∨ 127 < signed) ∧ t.flag .z = (t.a == 0) ∧ t.flag .n = t.a.getLsbD 7 ∧
      ReadEnd row s t ∧ Frame [.a] [.n, .v, .z, .c] [] s t

/-- SBC in binary mode (R152, R156, R157): the difference modulo 256 less the borrow, C when nothing is borrowed, V when the
signed difference does not fit (V is the spec's reading, log 17). -/
def Obligations.SbcSubtractsInBinary : Prop :=
  ∀ (v b : Byte) (w : Addr) (s : State), s.flag .d = false → ∀ row ∈ sbcRows v b w,
    let m := (row.src.fetch s).value
    let diff : Int := (s.a.toNat : Int) - m.toNat - (1 - ((s.flag .c).toNat : Int))
    let signed : Int := s.a.toInt - m.toInt - (1 - ((s.flag .c).toNat : Int))
    (encode row.instr).head? = some row.opcode ∧
    ∃ t, exec row.instr s = .next t ∧ (t.a.toNat : Int) = diff % 256 ∧ t.flag .c = decide (0 ≤ diff) ∧
      t.flag .v = decide (signed < -128 ∨ 127 < signed) ∧ t.flag .z = (t.a == 0) ∧ t.flag .n = t.a.getLsbD 7 ∧
      ReadEnd row s t ∧ Frame [.a] [.n, .v, .z, .c] [] s t

/-- ADC in decimal mode on BCD operands (R153, R155): the BCD code of the sum modulo 100, C when the sum exceeds 99, N and Z
from the result, V by the formula of R152 on it (the algorithm is the spec's reading, log 18). -/
def Obligations.AdcAddsInDecimal : Prop :=
  ∀ (v b : Byte) (w : Addr) (s : State), s.flag .d = true → isBcd s.a = true → ∀ row ∈ adcRows v b w,
    let m := (row.src.fetch s).value
    let sum := dec s.a + dec m + (s.flag .c).toNat
    isBcd m = true →
    ∃ t, exec row.instr s = .next t ∧ isBcd t.a = true ∧ dec t.a = sum % 100 ∧ t.flag .c = decide (99 < sum) ∧
      t.flag .v = ((s.a ^^^ t.a) &&& (m ^^^ t.a)).getLsbD 7 ∧ t.flag .z = (t.a == 0) ∧ t.flag .n = t.a.getLsbD 7 ∧
      ReadEnd row s t ∧ Frame [.a] [.n, .v, .z, .c] [] s t

/-- SBC in decimal mode on BCD operands (R156, R158): the BCD code of the difference modulo 100, C when it is not negative
(the algorithm is the spec's reading, log 18). -/
def Obligations.SbcSubtractsInDecimal : Prop :=
  ∀ (v b : Byte) (w : Addr) (s : State), s.flag .d = true → isBcd s.a = true → ∀ row ∈ sbcRows v b w,
    let m := (row.src.fetch s).value
    let diff : Int := (dec s.a : Int) - dec m - (1 - ((s.flag .c).toNat : Int))
    isBcd m = true →
    ∃ t, exec row.instr s = .next t ∧ isBcd t.a = true ∧ (dec t.a : Int) = diff % 100 ∧ t.flag .c = decide (0 ≤ diff) ∧
      t.flag .v = ((s.a ^^^ m) &&& (s.a ^^^ t.a)).getLsbD 7 ∧ t.flag .z = (t.a == 0) ∧ t.flag .n = t.a.getLsbD 7 ∧
      ReadEnd row s t ∧ Frame [.a] [.n, .v, .z, .c] [] s t

/-- ADC and SBC in decimal mode on operands that are not BCD run all the same (R159): the result and the carry are those of the
parameter, which the spec leaves open, and the flags are computed from them; where the parameter has no entry it is the spec's
default formula (the form of the parameter is the model's choice, log 19). -/
def Obligations.DecimalRunsOnEveryOperand : Prop :=
  ∀ (v b : Byte) (w : Addr) (s : State), s.flag .d = true →
    (∀ row ∈ adcRows v b w,
      let m := (row.src.fetch s).value
      let r := addDec s.config s.a m (s.flag .c)
      (s.config.decAdc = [] → r = addDecFormula s.a m (s.flag .c)) ∧
      ∃ t, exec row.instr s = .next t ∧ t.a = r.result ∧ t.flag .c = r.carry ∧
        t.flag .v = ((s.a ^^^ r.result) &&& (m ^^^ r.result)).getLsbD 7 ∧ t.flag .z = (t.a == 0) ∧
        t.flag .n = t.a.getLsbD 7 ∧ ReadEnd row s t ∧ Frame [.a] [.n, .v, .z, .c] [] s t) ∧
    (∀ row ∈ sbcRows v b w,
      let m := (row.src.fetch s).value
      let r := subDec s.config s.a m (s.flag .c)
      (s.config.decSbc = [] → r = subDecFormula s.a m (s.flag .c)) ∧
      ∃ t, exec row.instr s = .next t ∧ t.a = r.result ∧ t.flag .c = r.carry ∧
        t.flag .v = ((s.a ^^^ m) &&& (s.a ^^^ r.result)).getLsbD 7 ∧ t.flag .z = (t.a == 0) ∧
        t.flag .n = t.a.getLsbD 7 ∧ ReadEnd row s t ∧ Frame [.a] [.n, .v, .z, .c] [] s t)

/-- CMP, CPX, CPY in every form (R160 to R163): C when the register is not below the operand, Z when they are equal, N bit 7 of
the 8-bit difference; no register and no other flag changes. -/
def Obligations.ComparesSetNZC : Prop :=
  ∀ (v b : Byte) (w : Addr) (s : State),
    (∀ row ∈ cmpRows v b w, Compares row s.a s) ∧
    (∀ row ∈ cpxRows v b w, Compares row s.x s) ∧
    (∀ row ∈ cpyRows v b w, Compares row s.y s)

/-! ### Logic, shifts, increments -/

/-- AND, ORA, EOR in every form (R171, R172, R173). -/
def Obligations.LogicWritesTheAccumulator : Prop :=
  ∀ (v b : Byte) (w : Addr) (s : State),
    (∀ row ∈ andRows v b w, WritesRegister row .a (s.a &&& (row.src.fetch s).value) s) ∧
    (∀ row ∈ oraRows v b w, WritesRegister row .a (s.a ||| (row.src.fetch s).value) s) ∧
    (∀ row ∈ eorRows v b w, WritesRegister row .a (s.a ^^^ (row.src.fetch s).value) s)

/-- BIT (R174): Z from A and M, N and V from bits 7 and 6 of M; A is not changed. -/
def Obligations.BitTestsTheOperand : Prop :=
  ∀ (v b : Byte) (w : Addr) (s : State), ∀ row ∈ bitRows v b w,
    let m := (row.src.fetch s).value
    (encode row.instr).head? = some row.opcode ∧
    ∃ t, exec row.instr s = .next t ∧ t.flag .z = ((s.a &&& m) == 0) ∧ t.flag .n = m.getLsbD 7 ∧ t.flag .v = m.getLsbD 6 ∧
      t.cycles = some row.base ∧ ReadEnd row s t ∧ Frame [] [.n, .v, .z] [] s t

/-- ASL, LSR, ROL, ROR on the accumulator (R176 to R179 with R175). -/
def Obligations.ShiftsOfTheAccumulator : Prop :=
  ∀ s : State,
    ShiftsAccumulator .aslAcc 0x0A aslRule s ∧ ShiftsAccumulator .lsrAcc 0x4A lsrRule s ∧
    ShiftsAccumulator .rolAcc 0x2A rolRule s ∧ ShiftsAccumulator .rorAcc 0x6A rorRule s

/-- ASL, LSR, ROL, ROR on memory (R175 to R179): one read, then one write of the new value, to the same address. -/
def Obligations.ShiftsOfMemory : Prop :=
  ∀ (b : Byte) (w : Addr) (s : State),
    (∀ row ∈ aslRows b w, ShiftsByte row aslRule s) ∧ (∀ row ∈ lsrRows b w, ShiftsByte row lsrRule s) ∧
    (∀ row ∈ rolRows b w, ShiftsByte row rolRule s) ∧ (∀ row ∈ rorRows b w, ShiftsByte row rorRule s)

/-- INC and DEC of memory (R190, R191): modulo 256, Z and N only. -/
def Obligations.IncrementsOfMemory : Prop :=
  ∀ (b : Byte) (w : Addr) (s : State),
    (∀ row ∈ incRows b w, ModifiesByte row (fun v => (v + 1) % 256) [.n, .z] s fun _ => True) ∧
    (∀ row ∈ decRows b w, ModifiesByte row (fun v => (v + 255) % 256) [.n, .z] s fun _ => True)

/-- INX, INY, DEX, DEY (R192 to R195): modulo 256, Z and N only. -/
def Obligations.IncrementsOfRegisters : Prop :=
  ∀ s : State,
    RegisterOp .inx 0xE8 .x (BitVec.ofNat 8 (s.x.toNat + 1)) s ∧ RegisterOp .iny 0xC8 .y (BitVec.ofNat 8 (s.y.toNat + 1)) s ∧
    RegisterOp .dex 0xCA .x (BitVec.ofNat 8 (s.x.toNat + 255)) s ∧
    RegisterOp .dey 0x88 .y (BitVec.ofNat 8 (s.y.toNat + 255)) s

/-! ### Control transfer -/

/-- The eight branches (R200 to R208): each tests one flag; the target is relative to the next instruction. -/
def Obligations.BranchesTestOneFlag : Prop :=
  Branches .bcc 0x90 (fun s => !s.flag .c) ∧ Branches .bcs 0xB0 (fun s => s.flag .c) ∧
  Branches .beq 0xF0 (fun s => s.flag .z) ∧ Branches .bmi 0x30 (fun s => s.flag .n) ∧
  Branches .bne 0xD0 (fun s => !s.flag .z) ∧ Branches .bpl 0x10 (fun s => !s.flag .n) ∧
  Branches .bvc 0x50 (fun s => !s.flag .v) ∧ Branches .bvs 0x70 (fun s => s.flag .v)

/-- JMP (R209, R210, R123): absolute without a data access; indirect through a pointer whose high byte, with
`JMP_IND_PAGE_WRAP`, comes from the pointer's own page (log 23: an open parameter). -/
def Obligations.JumpsLoadPc : Prop :=
  ∀ (w : Addr) (s : State),
    (encode (.jmpAbs w) = [0x4C, lowByte w, highByte w] ∧
      ∃ t, exec (.jmpAbs w) s = .next t ∧ t.pc = w ∧ t.cycles = some 3 ∧ Quiet s t ∧ Frame [] [] [] s t) ∧
    (let hiAddr : Addr := BitVec.ofNat 16
       (if s.config.jmpIndPageWrap then w.toNat / 256 * 256 + (w.toNat % 256 + 1) % 256 else w.toNat + 1)
     let lo := s.byteAt w
     let hi := (s.afterRead w).byteAt hiAddr
     encode (.jmpInd w) = [0x6C, lowByte w, highByte w] ∧
     ∃ t, exec (.jmpInd w) s = .next t ∧ t.pc.toNat = hi.toNat * 256 + lo.toNat ∧ t.cycles = some 5 ∧
       t.devices = ((s.afterRead w).afterRead hiAddr).devices ∧
       t.accesses = s.accesses ++ [.read w lo, .read hiAddr hi] ∧ t.report = s.report ∧ Frame [] [] [] s t)

/-- JSR (R211): the address of its last byte is pushed, high byte first (the spec's choice, log 27). -/
def Obligations.JsrPushesItsLastByte : Prop :=
  ∀ (w : Addr) (s : State),
    let ret := (s.pc.toNat + 2) % 65536
    let hi : Byte := BitVec.ofNat 8 (ret / 256)
    let lo : Byte := BitVec.ofNat 8 (ret % 256)
    let a1 := stackAddr s.sp
    let a2 := stackAddr (s.sp - 1)
    encode (.jsr w) = [0x20, lowByte w, highByte w] ∧
    ∃ t, exec (.jsr w) s = .next t ∧ t.pc = w ∧ t.sp = s.sp - 2 ∧ t.cycles = some 6 ∧
      t.devices = busAfterWrite (busAfterWrite s.devices a1 hi) a2 lo ∧
      t.accesses = s.accesses ++ [.write a1 hi, .write a2 lo] ∧ t.report = s.report ∧ Frame [.sp] [] [a1, a2] s t

/-- RTS (R212): low byte first, and 1 is added to the whole address (the spec's choice, log 27). -/
def Obligations.RtsAddsOneToTheWholeAddress : Prop :=
  ∀ s : State,
    let a1 := stackAddr (s.sp + 1)
    let a2 := stackAddr (s.sp + 2)
    let lo := s.byteAt a1
    let hi := (s.afterRead a1).byteAt a2
    encode .rts = [0x60] ∧
    ∃ t, exec .rts s = .next t ∧ t.pc.toNat = (hi.toNat * 256 + lo.toNat + 1) % 65536 ∧ t.sp = s.sp + 2 ∧
      t.cycles = some 6 ∧ t.devices = ((s.afterRead a1).afterRead a2).devices ∧
      t.accesses = s.accesses ++ [.read a1 lo, .read a2 hi] ∧ t.report = s.report ∧ Frame [.sp] [] [] s t

/-- JSR and RTS pair up (R213): with SP and the two stack bytes as the JSR left them, RTS goes to the instruction after the JSR
and SP is back. Where the stack is RAM. -/
def Obligations.JsrThenRtsReturns : Prop :=
  ∀ (w : Addr) (s : State), s.ramAt (stackAddr s.sp) → s.ramAt (stackAddr (s.sp - 1)) →
    ∃ t, exec (.jsr w) s = .next t ∧
      ∀ u : State, u.sp = t.sp → u.peek (stackAddr s.sp) = t.peek (stackAddr s.sp) →
        u.peek (stackAddr (s.sp - 1)) = t.peek (stackAddr (s.sp - 1)) →
        ∃ r, exec .rts u = .next r ∧ r.pc = s.pc + 3 ∧ r.sp = s.sp

/-! ### Stack, flags, NOP -/

/-- PHA and PHP (R220, R222, R224): the byte at page 1, offset SP; then SP less 1 modulo 256; P is pushed as it stands
(log 16). -/
def Obligations.PushesStoreThenDecrement : Prop :=
  ∀ s : State,
    let a1 := stackAddr s.sp
    a1.toNat = 256 + s.sp.toNat ∧
    ∀ e ∈ [(Instr.pha, (0x48 : Byte), s.a), (.php, 0x08, s.p)], encode e.1 = [e.2.1] ∧
      ∃ t, exec e.1 s = .next t ∧ t.sp.toNat = (s.sp.toNat + 255) % 256 ∧ t.devices = busAfterWrite s.devices a1 e.2.2 ∧
        t.accesses = s.accesses ++ [.write a1 e.2.2] ∧ (s.ramAt a1 → t.peek a1 = some e.2.2) ∧ t.pc = s.pc + 1 ∧
        t.cycles = some 3 ∧ t.report = s.report ∧ Frame [.sp] [] [a1] s t

/-- PLA and PLP (R221, R223, R225): SP plus 1 modulo 256, then the byte there; PLA sets Z and N, PLP replaces all of P
(log 16). -/
def Obligations.PullsIncrementThenRead : Prop :=
  ∀ s : State,
    let a1 := stackAddr (s.sp + 1)
    let v := s.byteAt a1
    a1.toNat = 256 + (s.sp.toNat + 1) % 256 ∧
    (encode .pla = [0x68] ∧ ∃ t, exec .pla s = .next t ∧ t.a = v ∧ t.flag .z = (v == 0) ∧ t.flag .n = v.getLsbD 7 ∧
      t.sp = s.sp + 1 ∧ t.devices = (s.afterRead a1).devices ∧ t.accesses = s.accesses ++ [.read a1 v] ∧
      t.pc = s.pc + 1 ∧ t.cycles = some 4 ∧ t.report = s.report ∧ Frame [.a, .sp] [.n, .z] [] s t) ∧
    (encode .plp = [0x28] ∧ ∃ t, exec .plp s = .next t ∧ t.p = v ∧ t.sp = s.sp + 1 ∧
      t.devices = (s.afterRead a1).devices ∧ t.accesses = s.accesses ++ [.read a1 v] ∧ t.pc = s.pc + 1 ∧
      t.cycles = some 4 ∧ t.report = s.report ∧ Frame [.sp] [.n, .v, .u, .b, .d, .i, .z, .c] [] s t)

/-- PHA then PLA restores A and SP, PHP then PLP restores P and SP, where the stack byte is RAM (R234). -/
def Obligations.PushThenPullRestores : Prop :=
  ∀ s : State, s.ramAt (stackAddr s.sp) →
    (∃ t u, exec .pha s = .next t ∧ exec .pla t = .next u ∧ u.a = s.a ∧ u.sp = s.sp) ∧
    (∃ t u, exec .php s = .next t ∧ exec .plp t = .next u ∧ u.p = s.p ∧ u.sp = s.sp)

/-- The flag instructions and NOP (R226 to R233). That a flag instruction touches nothing else, makes no access after the fetch
and takes 2 cycles is said once for all seven at the head of section 3 of 46_stack_flag.md; the spec marks these instructions as
general knowledge (log 15). -/
def Obligations.FlagInstructionsAndNop : Prop :=
  ∀ s : State,
    SetsFlag .clc 0x18 .c false s ∧ SetsFlag .sec 0x38 .c true s ∧ SetsFlag .cli 0x58 .i false s ∧
    SetsFlag .sei 0x78 .i true s ∧ SetsFlag .cld 0xD8 .d false s ∧ SetsFlag .sed 0xF8 .d true s ∧
    SetsFlag .clv 0xB8 .v false s ∧
    (encode .nop = [0xEA] ∧ ∃ t, exec .nop s = .next t ∧ t.pc = s.pc + 1 ∧ t.cycles = some 2 ∧ Quiet s t ∧
      Frame [] [] [] s t)

/-! ### BRK, RTI, invalid opcodes, interrupts -/

/-- BRK (R242), in both variants of `BRK_GATED_BY_I`: PC two on; the interrupt sequence from there unless it is gated; B set in
the live register afterwards, so that the pushed byte has the old one (log 16, 20, 21). That the two vector reads of the sequence
come low byte first is the spec's choice too (R251, D16; log 25). -/
def Obligations.BrkRunsTheGatedSequence : Prop :=
  ∀ s : State, encode .brk = [0x00] ∧
    ∃ t, exec .brk s = .next t ∧ t.flag .b = true ∧ t.cycles = some 7 ∧
      (s.config.brkGatedByI = true → s.flag .i = true → t.pc = s.pc + 2 ∧ Quiet s t ∧ Frame [] [.b] [] s t) ∧
      ((s.config.brkGatedByI = false ∨ s.flag .i = false) → Entered 0xFFFE [.b] { s with pc := s.pc + 2 } t)

/-- RTI (R243): P, PC low, PC high are pulled in that order; nothing is added (log 27). -/
def Obligations.RtiPullsStatusThenPc : Prop :=
  ∀ s : State,
    let a1 := stackAddr (s.sp + 1)
    let a2 := stackAddr (s.sp + 2)
    let a3 := stackAddr (s.sp + 3)
    let s1 := s.afterRead a1
    let s2 := s1.afterRead a2
    encode .rti = [0x40] ∧
    ∃ t, exec .rti s = .next t ∧ t.p = s.byteAt a1 ∧
      t.pc.toNat = (s2.byteAt a3).toNat * 256 + (s1.byteAt a2).toNat ∧ t.sp = s.sp + 3 ∧ t.cycles = some 6 ∧
      t.devices = (s2.afterRead a3).devices ∧
      t.accesses = s.accesses ++ [.read a1 (s.byteAt a1), .read a2 (s1.byteAt a2), .read a3 (s2.byteAt a3)] ∧
      t.report = s.report ∧ Frame [.sp] [.n, .v, .u, .b, .d, .i, .z, .c] [] s t

/-- The invalid opcodes (R244, R100): a report of PC and the byte (its content is the spec's choice, log 29), PC one on,
0 cycles, no access, nothing else. -/
def Obligations.InvalidOpcodeSkipsOneByte : Prop :=
  ∀ (op : Byte) (s : State), op ∈ invalidOpcodes →
    encode (.invalid op) = [op] ∧
    ∃ t, exec (.invalid op) s = .next t ∧ t.report = some ⟨s.pc, op⟩ ∧ t.pc.toNat = (s.pc.toNat + 1) % 65536 ∧
      t.cycles = some 0 ∧ t.devices = s.devices ∧ t.accesses = s.accesses ∧ Frame [] [] [] s t

/-- The `IRQ` event (R253): with I clear the sequence through 0xFFFE (R251); with I set nothing happens and nothing is
remembered (log 16, 21, 25 for the parts of the sequence the spec chose; log 6 for the schedule). -/
def Obligations.IrqIsGatedByI : Prop :=
  ∀ (s : State) (rest : List Event), s.mode = .running → s.schedule = .irq :: rest →
    let s0 := { s.beginEvent with schedule := rest }
    (s.flag .i = true → step s = .next s0) ∧
    (s.flag .i = false → ∃ t, step s = .next t ∧ t.cycles = none ∧ Entered 0xFFFE [] s0 t)

/-- The `NMI` event (R252): the sequence through 0xFFFA, whatever I holds (log 6, 16, 21, 25 as for `IRQ`). -/
def Obligations.NmiIsUnconditional : Prop :=
  ∀ (s : State) (rest : List Event), s.mode = .running → s.schedule = .nmi :: rest →
    ∃ t, step s = .next t ∧ t.cycles = none ∧ Entered 0xFFFA [] { s.beginEvent with schedule := rest } t

/-- RTI undoes interrupt entry (R261): with SP and the three stack bytes as the entry left them, RTI restores P, PC and SP. Where
the stack is RAM. -/
def Obligations.RtiUndoesInterruptEntry : Prop :=
  ∀ (s : State) (vec : Addr), s.ramAt (stackAddr s.sp) → s.ramAt (stackAddr (s.sp - 1)) → s.ramAt (stackAddr (s.sp - 2)) →
    ∀ u : State, u.sp = (s.intSeq vec).sp →
      (∀ a ∈ [stackAddr s.sp, stackAddr (s.sp - 1), stackAddr (s.sp - 2)], u.peek a = (s.intSeq vec).peek a) →
      ∃ t, exec .rti u = .next t ∧ t.p = s.p ∧ t.pc = s.pc ∧ t.sp = s.sp ∧ t.a = u.a ∧ t.x = u.x ∧ t.y = u.y
end

