-- ==== Sys2Proof/Laws/State.lean ====
section
/-! SUPPORT. One lemma for each field of State and each update of it, so that no proof unfolds a record update. -/

namespace Sys2Proof.Laws
open Sys2Proof.Machine

section updates
variable (s : State)

@[simp] theorem setA_a (v : Byte) : (s.setA v).a = v := rfl
@[simp] theorem setA_x (v : Byte) : (s.setA v).x = s.x := rfl
@[simp] theorem setA_y (v : Byte) : (s.setA v).y = s.y := rfl
@[simp] theorem setA_sp (v : Byte) : (s.setA v).sp = s.sp := rfl
@[simp] theorem setA_p (v : Byte) : (s.setA v).p = s.p := rfl
@[simp] theorem setA_pc (v : Byte) : (s.setA v).pc = s.pc := rfl
@[simp] theorem setA_mode (v : Byte) : (s.setA v).mode = s.mode := rfl
@[simp] theorem setA_devices (v : Byte) : (s.setA v).devices = s.devices := rfl
@[simp] theorem setA_config (v : Byte) : (s.setA v).config = s.config := rfl
@[simp] theorem setA_schedule (v : Byte) : (s.setA v).schedule = s.schedule := rfl
@[simp] theorem setA_cycles (v : Byte) : (s.setA v).cycles = s.cycles := rfl
@[simp] theorem setA_report (v : Byte) : (s.setA v).report = s.report := rfl
@[simp] theorem setA_accesses (v : Byte) : (s.setA v).accesses = s.accesses := rfl

@[simp] theorem setX_a (v : Byte) : (s.setX v).a = s.a := rfl
@[simp] theorem setX_x (v : Byte) : (s.setX v).x = v := rfl
@[simp] theorem setX_y (v : Byte) : (s.setX v).y = s.y := rfl
@[simp] theorem setX_sp (v : Byte) : (s.setX v).sp = s.sp := rfl
@[simp] theorem setX_p (v : Byte) : (s.setX v).p = s.p := rfl
@[simp] theorem setX_pc (v : Byte) : (s.setX v).pc = s.pc := rfl
@[simp] theorem setX_mode (v : Byte) : (s.setX v).mode = s.mode := rfl
@[simp] theorem setX_devices (v : Byte) : (s.setX v).devices = s.devices := rfl
@[simp] theorem setX_config (v : Byte) : (s.setX v).config = s.config := rfl
@[simp] theorem setX_schedule (v : Byte) : (s.setX v).schedule = s.schedule := rfl
@[simp] theorem setX_cycles (v : Byte) : (s.setX v).cycles = s.cycles := rfl
@[simp] theorem setX_report (v : Byte) : (s.setX v).report = s.report := rfl
@[simp] theorem setX_accesses (v : Byte) : (s.setX v).accesses = s.accesses := rfl

@[simp] theorem setY_a (v : Byte) : (s.setY v).a = s.a := rfl
@[simp] theorem setY_x (v : Byte) : (s.setY v).x = s.x := rfl
@[simp] theorem setY_y (v : Byte) : (s.setY v).y = v := rfl
@[simp] theorem setY_sp (v : Byte) : (s.setY v).sp = s.sp := rfl
@[simp] theorem setY_p (v : Byte) : (s.setY v).p = s.p := rfl
@[simp] theorem setY_pc (v : Byte) : (s.setY v).pc = s.pc := rfl
@[simp] theorem setY_mode (v : Byte) : (s.setY v).mode = s.mode := rfl
@[simp] theorem setY_devices (v : Byte) : (s.setY v).devices = s.devices := rfl
@[simp] theorem setY_config (v : Byte) : (s.setY v).config = s.config := rfl
@[simp] theorem setY_schedule (v : Byte) : (s.setY v).schedule = s.schedule := rfl
@[simp] theorem setY_cycles (v : Byte) : (s.setY v).cycles = s.cycles := rfl
@[simp] theorem setY_report (v : Byte) : (s.setY v).report = s.report := rfl
@[simp] theorem setY_accesses (v : Byte) : (s.setY v).accesses = s.accesses := rfl

@[simp] theorem setSp_a (v : Byte) : (s.setSp v).a = s.a := rfl
@[simp] theorem setSp_x (v : Byte) : (s.setSp v).x = s.x := rfl
@[simp] theorem setSp_y (v : Byte) : (s.setSp v).y = s.y := rfl
@[simp] theorem setSp_sp (v : Byte) : (s.setSp v).sp = v := rfl
@[simp] theorem setSp_p (v : Byte) : (s.setSp v).p = s.p := rfl
@[simp] theorem setSp_pc (v : Byte) : (s.setSp v).pc = s.pc := rfl
@[simp] theorem setSp_mode (v : Byte) : (s.setSp v).mode = s.mode := rfl
@[simp] theorem setSp_devices (v : Byte) : (s.setSp v).devices = s.devices := rfl
@[simp] theorem setSp_config (v : Byte) : (s.setSp v).config = s.config := rfl
@[simp] theorem setSp_schedule (v : Byte) : (s.setSp v).schedule = s.schedule := rfl
@[simp] theorem setSp_cycles (v : Byte) : (s.setSp v).cycles = s.cycles := rfl
@[simp] theorem setSp_report (v : Byte) : (s.setSp v).report = s.report := rfl
@[simp] theorem setSp_accesses (v : Byte) : (s.setSp v).accesses = s.accesses := rfl

@[simp] theorem setP_a (v : Byte) : (s.setP v).a = s.a := rfl
@[simp] theorem setP_x (v : Byte) : (s.setP v).x = s.x := rfl
@[simp] theorem setP_y (v : Byte) : (s.setP v).y = s.y := rfl
@[simp] theorem setP_sp (v : Byte) : (s.setP v).sp = s.sp := rfl
@[simp] theorem setP_p (v : Byte) : (s.setP v).p = v := rfl
@[simp] theorem setP_pc (v : Byte) : (s.setP v).pc = s.pc := rfl
@[simp] theorem setP_mode (v : Byte) : (s.setP v).mode = s.mode := rfl
@[simp] theorem setP_devices (v : Byte) : (s.setP v).devices = s.devices := rfl
@[simp] theorem setP_config (v : Byte) : (s.setP v).config = s.config := rfl
@[simp] theorem setP_schedule (v : Byte) : (s.setP v).schedule = s.schedule := rfl
@[simp] theorem setP_cycles (v : Byte) : (s.setP v).cycles = s.cycles := rfl
@[simp] theorem setP_report (v : Byte) : (s.setP v).report = s.report := rfl
@[simp] theorem setP_accesses (v : Byte) : (s.setP v).accesses = s.accesses := rfl

@[simp] theorem setPc_a (v : Addr) : (s.setPc v).a = s.a := rfl
@[simp] theorem setPc_x (v : Addr) : (s.setPc v).x = s.x := rfl
@[simp] theorem setPc_y (v : Addr) : (s.setPc v).y = s.y := rfl
@[simp] theorem setPc_sp (v : Addr) : (s.setPc v).sp = s.sp := rfl
@[simp] theorem setPc_p (v : Addr) : (s.setPc v).p = s.p := rfl
@[simp] theorem setPc_pc (v : Addr) : (s.setPc v).pc = v := rfl
@[simp] theorem setPc_mode (v : Addr) : (s.setPc v).mode = s.mode := rfl
@[simp] theorem setPc_devices (v : Addr) : (s.setPc v).devices = s.devices := rfl
@[simp] theorem setPc_config (v : Addr) : (s.setPc v).config = s.config := rfl
@[simp] theorem setPc_schedule (v : Addr) : (s.setPc v).schedule = s.schedule := rfl
@[simp] theorem setPc_cycles (v : Addr) : (s.setPc v).cycles = s.cycles := rfl
@[simp] theorem setPc_report (v : Addr) : (s.setPc v).report = s.report := rfl
@[simp] theorem setPc_accesses (v : Addr) : (s.setPc v).accesses = s.accesses := rfl

@[simp] theorem setFlag_a (f : Flag) (v : Bool) : (s.setFlag f v).a = s.a := rfl
@[simp] theorem setFlag_x (f : Flag) (v : Bool) : (s.setFlag f v).x = s.x := rfl
@[simp] theorem setFlag_y (f : Flag) (v : Bool) : (s.setFlag f v).y = s.y := rfl
@[simp] theorem setFlag_sp (f : Flag) (v : Bool) : (s.setFlag f v).sp = s.sp := rfl
@[simp] theorem setFlag_p (f : Flag) (v : Bool) : (s.setFlag f v).p = statusSet s.p f v := rfl
@[simp] theorem setFlag_pc (f : Flag) (v : Bool) : (s.setFlag f v).pc = s.pc := rfl
@[simp] theorem setFlag_mode (f : Flag) (v : Bool) : (s.setFlag f v).mode = s.mode := rfl
@[simp] theorem setFlag_devices (f : Flag) (v : Bool) : (s.setFlag f v).devices = s.devices := rfl
@[simp] theorem setFlag_config (f : Flag) (v : Bool) : (s.setFlag f v).config = s.config := rfl
@[simp] theorem setFlag_schedule (f : Flag) (v : Bool) : (s.setFlag f v).schedule = s.schedule := rfl
@[simp] theorem setFlag_cycles (f : Flag) (v : Bool) : (s.setFlag f v).cycles = s.cycles := rfl
@[simp] theorem setFlag_report (f : Flag) (v : Bool) : (s.setFlag f v).report = s.report := rfl
@[simp] theorem setFlag_accesses (f : Flag) (v : Bool) : (s.setFlag f v).accesses = s.accesses := rfl

@[simp] theorem loadA_a (v : Byte) : (s.loadA v).a = v := rfl
@[simp] theorem loadA_x (v : Byte) : (s.loadA v).x = s.x := rfl
@[simp] theorem loadA_y (v : Byte) : (s.loadA v).y = s.y := rfl
@[simp] theorem loadA_sp (v : Byte) : (s.loadA v).sp = s.sp := rfl
@[simp] theorem loadA_p (v : Byte) : (s.loadA v).p = setZN v s.p := rfl
@[simp] theorem loadA_pc (v : Byte) : (s.loadA v).pc = s.pc := rfl
@[simp] theorem loadA_mode (v : Byte) : (s.loadA v).mode = s.mode := rfl
@[simp] theorem loadA_devices (v : Byte) : (s.loadA v).devices = s.devices := rfl
@[simp] theorem loadA_config (v : Byte) : (s.loadA v).config = s.config := rfl
@[simp] theorem loadA_schedule (v : Byte) : (s.loadA v).schedule = s.schedule := rfl
@[simp] theorem loadA_cycles (v : Byte) : (s.loadA v).cycles = s.cycles := rfl
@[simp] theorem loadA_report (v : Byte) : (s.loadA v).report = s.report := rfl
@[simp] theorem loadA_accesses (v : Byte) : (s.loadA v).accesses = s.accesses := rfl

@[simp] theorem loadX_a (v : Byte) : (s.loadX v).a = s.a := rfl
@[simp] theorem loadX_x (v : Byte) : (s.loadX v).x = v := rfl
@[simp] theorem loadX_y (v : Byte) : (s.loadX v).y = s.y := rfl
@[simp] theorem loadX_sp (v : Byte) : (s.loadX v).sp = s.sp := rfl
@[simp] theorem loadX_p (v : Byte) : (s.loadX v).p = setZN v s.p := rfl
@[simp] theorem loadX_pc (v : Byte) : (s.loadX v).pc = s.pc := rfl
@[simp] theorem loadX_mode (v : Byte) : (s.loadX v).mode = s.mode := rfl
@[simp] theorem loadX_devices (v : Byte) : (s.loadX v).devices = s.devices := rfl
@[simp] theorem loadX_config (v : Byte) : (s.loadX v).config = s.config := rfl
@[simp] theorem loadX_schedule (v : Byte) : (s.loadX v).schedule = s.schedule := rfl
@[simp] theorem loadX_cycles (v : Byte) : (s.loadX v).cycles = s.cycles := rfl
@[simp] theorem loadX_report (v : Byte) : (s.loadX v).report = s.report := rfl
@[simp] theorem loadX_accesses (v : Byte) : (s.loadX v).accesses = s.accesses := rfl

@[simp] theorem loadY_a (v : Byte) : (s.loadY v).a = s.a := rfl
@[simp] theorem loadY_x (v : Byte) : (s.loadY v).x = s.x := rfl
@[simp] theorem loadY_y (v : Byte) : (s.loadY v).y = v := rfl
@[simp] theorem loadY_sp (v : Byte) : (s.loadY v).sp = s.sp := rfl
@[simp] theorem loadY_p (v : Byte) : (s.loadY v).p = setZN v s.p := rfl
@[simp] theorem loadY_pc (v : Byte) : (s.loadY v).pc = s.pc := rfl
@[simp] theorem loadY_mode (v : Byte) : (s.loadY v).mode = s.mode := rfl
@[simp] theorem loadY_devices (v : Byte) : (s.loadY v).devices = s.devices := rfl
@[simp] theorem loadY_config (v : Byte) : (s.loadY v).config = s.config := rfl
@[simp] theorem loadY_schedule (v : Byte) : (s.loadY v).schedule = s.schedule := rfl
@[simp] theorem loadY_cycles (v : Byte) : (s.loadY v).cycles = s.cycles := rfl
@[simp] theorem loadY_report (v : Byte) : (s.loadY v).report = s.report := rfl
@[simp] theorem loadY_accesses (v : Byte) : (s.loadY v).accesses = s.accesses := rfl

@[simp] theorem setCycles_a (n : Nat) : (s.setCycles n).a = s.a := rfl
@[simp] theorem setCycles_x (n : Nat) : (s.setCycles n).x = s.x := rfl
@[simp] theorem setCycles_y (n : Nat) : (s.setCycles n).y = s.y := rfl
@[simp] theorem setCycles_sp (n : Nat) : (s.setCycles n).sp = s.sp := rfl
@[simp] theorem setCycles_p (n : Nat) : (s.setCycles n).p = s.p := rfl
@[simp] theorem setCycles_pc (n : Nat) : (s.setCycles n).pc = s.pc := rfl
@[simp] theorem setCycles_mode (n : Nat) : (s.setCycles n).mode = s.mode := rfl
@[simp] theorem setCycles_devices (n : Nat) : (s.setCycles n).devices = s.devices := rfl
@[simp] theorem setCycles_config (n : Nat) : (s.setCycles n).config = s.config := rfl
@[simp] theorem setCycles_schedule (n : Nat) : (s.setCycles n).schedule = s.schedule := rfl
@[simp] theorem setCycles_cycles (n : Nat) : (s.setCycles n).cycles = some n := rfl
@[simp] theorem setCycles_report (n : Nat) : (s.setCycles n).report = s.report := rfl
@[simp] theorem setCycles_accesses (n : Nat) : (s.setCycles n).accesses = s.accesses := rfl

@[simp] theorem emitReport_a (w : Addr) (op : Byte) : (s.emitReport w op).a = s.a := rfl
@[simp] theorem emitReport_x (w : Addr) (op : Byte) : (s.emitReport w op).x = s.x := rfl
@[simp] theorem emitReport_y (w : Addr) (op : Byte) : (s.emitReport w op).y = s.y := rfl
@[simp] theorem emitReport_sp (w : Addr) (op : Byte) : (s.emitReport w op).sp = s.sp := rfl
@[simp] theorem emitReport_p (w : Addr) (op : Byte) : (s.emitReport w op).p = s.p := rfl
@[simp] theorem emitReport_pc (w : Addr) (op : Byte) : (s.emitReport w op).pc = s.pc := rfl
@[simp] theorem emitReport_mode (w : Addr) (op : Byte) : (s.emitReport w op).mode = s.mode := rfl
@[simp] theorem emitReport_devices (w : Addr) (op : Byte) : (s.emitReport w op).devices = s.devices := rfl
@[simp] theorem emitReport_config (w : Addr) (op : Byte) : (s.emitReport w op).config = s.config := rfl
@[simp] theorem emitReport_schedule (w : Addr) (op : Byte) : (s.emitReport w op).schedule = s.schedule := rfl
@[simp] theorem emitReport_cycles (w : Addr) (op : Byte) : (s.emitReport w op).cycles = s.cycles := rfl
@[simp] theorem emitReport_report (w : Addr) (op : Byte) : (s.emitReport w op).report = some ⟨w, op⟩ := rfl
@[simp] theorem emitReport_accesses (w : Addr) (op : Byte) : (s.emitReport w op).accesses = s.accesses := rfl

@[simp] theorem beginEvent_a : (s.beginEvent).a = s.a := rfl
@[simp] theorem beginEvent_x : (s.beginEvent).x = s.x := rfl
@[simp] theorem beginEvent_y : (s.beginEvent).y = s.y := rfl
@[simp] theorem beginEvent_sp : (s.beginEvent).sp = s.sp := rfl
@[simp] theorem beginEvent_p : (s.beginEvent).p = s.p := rfl
@[simp] theorem beginEvent_pc : (s.beginEvent).pc = s.pc := rfl
@[simp] theorem beginEvent_mode : (s.beginEvent).mode = s.mode := rfl
@[simp] theorem beginEvent_devices : (s.beginEvent).devices = s.devices := rfl
@[simp] theorem beginEvent_config : (s.beginEvent).config = s.config := rfl
@[simp] theorem beginEvent_schedule : (s.beginEvent).schedule = s.schedule := rfl
@[simp] theorem beginEvent_cycles : (s.beginEvent).cycles = none := rfl
@[simp] theorem beginEvent_report : (s.beginEvent).report = none := rfl
@[simp] theorem beginEvent_accesses : (s.beginEvent).accesses = [] := rfl

@[simp] theorem finish_a (n c : Nat) : (s.finish n c).a = s.a := rfl
@[simp] theorem finish_x (n c : Nat) : (s.finish n c).x = s.x := rfl
@[simp] theorem finish_y (n c : Nat) : (s.finish n c).y = s.y := rfl
@[simp] theorem finish_sp (n c : Nat) : (s.finish n c).sp = s.sp := rfl
@[simp] theorem finish_p (n c : Nat) : (s.finish n c).p = s.p := rfl
@[simp] theorem finish_pc (n c : Nat) : (s.finish n c).pc = s.pc + BitVec.ofNat 16 n := rfl
@[simp] theorem finish_mode (n c : Nat) : (s.finish n c).mode = s.mode := rfl
@[simp] theorem finish_devices (n c : Nat) : (s.finish n c).devices = s.devices := rfl
@[simp] theorem finish_config (n c : Nat) : (s.finish n c).config = s.config := rfl
@[simp] theorem finish_schedule (n c : Nat) : (s.finish n c).schedule = s.schedule := rfl
@[simp] theorem finish_cycles (n c : Nat) : (s.finish n c).cycles = some c := rfl
@[simp] theorem finish_report (n c : Nat) : (s.finish n c).report = s.report := rfl
@[simp] theorem finish_accesses (n c : Nat) : (s.finish n c).accesses = s.accesses := rfl

@[simp] theorem afterRead_a (w : Addr) : (s.afterRead w).a = s.a := rfl
@[simp] theorem afterRead_x (w : Addr) : (s.afterRead w).x = s.x := rfl
@[simp] theorem afterRead_y (w : Addr) : (s.afterRead w).y = s.y := rfl
@[simp] theorem afterRead_sp (w : Addr) : (s.afterRead w).sp = s.sp := rfl
@[simp] theorem afterRead_p (w : Addr) : (s.afterRead w).p = s.p := rfl
@[simp] theorem afterRead_pc (w : Addr) : (s.afterRead w).pc = s.pc := rfl
@[simp] theorem afterRead_mode (w : Addr) : (s.afterRead w).mode = s.mode := rfl
@[simp] theorem afterRead_devices (w : Addr) : (s.afterRead w).devices = busAfterRead s.devices w := rfl
@[simp] theorem afterRead_config (w : Addr) : (s.afterRead w).config = s.config := rfl
@[simp] theorem afterRead_schedule (w : Addr) : (s.afterRead w).schedule = s.schedule := rfl
@[simp] theorem afterRead_cycles (w : Addr) : (s.afterRead w).cycles = s.cycles := rfl
@[simp] theorem afterRead_report (w : Addr) : (s.afterRead w).report = s.report := rfl
@[simp] theorem afterRead_accesses (w : Addr) : (s.afterRead w).accesses = s.accesses ++ [.read w (s.byteAt w)] := rfl

@[simp] theorem busWrite_a (w : Addr) (v : Byte) : (s.busWrite w v).a = s.a := rfl
@[simp] theorem busWrite_x (w : Addr) (v : Byte) : (s.busWrite w v).x = s.x := rfl
@[simp] theorem busWrite_y (w : Addr) (v : Byte) : (s.busWrite w v).y = s.y := rfl
@[simp] theorem busWrite_sp (w : Addr) (v : Byte) : (s.busWrite w v).sp = s.sp := rfl
@[simp] theorem busWrite_p (w : Addr) (v : Byte) : (s.busWrite w v).p = s.p := rfl
@[simp] theorem busWrite_pc (w : Addr) (v : Byte) : (s.busWrite w v).pc = s.pc := rfl
@[simp] theorem busWrite_mode (w : Addr) (v : Byte) : (s.busWrite w v).mode = s.mode := rfl
@[simp] theorem busWrite_devices (w : Addr) (v : Byte) : (s.busWrite w v).devices = busAfterWrite s.devices w v := rfl
@[simp] theorem busWrite_config (w : Addr) (v : Byte) : (s.busWrite w v).config = s.config := rfl
@[simp] theorem busWrite_schedule (w : Addr) (v : Byte) : (s.busWrite w v).schedule = s.schedule := rfl
@[simp] theorem busWrite_cycles (w : Addr) (v : Byte) : (s.busWrite w v).cycles = s.cycles := rfl
@[simp] theorem busWrite_report (w : Addr) (v : Byte) : (s.busWrite w v).report = s.report := rfl
@[simp] theorem busWrite_accesses (w : Addr) (v : Byte) : (s.busWrite w v).accesses = s.accesses ++ [.write w v] := rfl

@[simp] theorem push_a (v : Byte) : (s.push v).a = s.a := rfl
@[simp] theorem push_x (v : Byte) : (s.push v).x = s.x := rfl
@[simp] theorem push_y (v : Byte) : (s.push v).y = s.y := rfl
@[simp] theorem push_sp (v : Byte) : (s.push v).sp = s.sp - 1 := rfl
@[simp] theorem push_p (v : Byte) : (s.push v).p = s.p := rfl
@[simp] theorem push_pc (v : Byte) : (s.push v).pc = s.pc := rfl
@[simp] theorem push_mode (v : Byte) : (s.push v).mode = s.mode := rfl
@[simp] theorem push_devices (v : Byte) : (s.push v).devices = busAfterWrite s.devices (stackAddr s.sp) v := rfl
@[simp] theorem push_config (v : Byte) : (s.push v).config = s.config := rfl
@[simp] theorem push_schedule (v : Byte) : (s.push v).schedule = s.schedule := rfl
@[simp] theorem push_cycles (v : Byte) : (s.push v).cycles = s.cycles := rfl
@[simp] theorem push_report (v : Byte) : (s.push v).report = s.report := rfl
@[simp] theorem push_accesses (v : Byte) : (s.push v).accesses = s.accesses ++ [.write (stackAddr s.sp) v] := rfl

@[simp] theorem pull_a : (s.pull.state).a = s.a := rfl
@[simp] theorem pull_x : (s.pull.state).x = s.x := rfl
@[simp] theorem pull_y : (s.pull.state).y = s.y := rfl
@[simp] theorem pull_sp : (s.pull.state).sp = s.sp + 1 := rfl
@[simp] theorem pull_p : (s.pull.state).p = s.p := rfl
@[simp] theorem pull_pc : (s.pull.state).pc = s.pc := rfl
@[simp] theorem pull_mode : (s.pull.state).mode = s.mode := rfl
@[simp] theorem pull_devices : (s.pull.state).devices = busAfterRead s.devices (stackAddr (s.sp + 1)) := rfl
@[simp] theorem pull_config : (s.pull.state).config = s.config := rfl
@[simp] theorem pull_schedule : (s.pull.state).schedule = s.schedule := rfl
@[simp] theorem pull_cycles : (s.pull.state).cycles = s.cycles := rfl
@[simp] theorem pull_report : (s.pull.state).report = s.report := rfl
@[simp] theorem pull_accesses : (s.pull.state).accesses = s.accesses ++ [.read (stackAddr (s.sp + 1)) (s.byteAt (stackAddr (s.sp + 1)))] := rfl

@[simp] theorem readPair_a (l h : Addr) : (s.readPair l h).state.a = s.a := rfl
@[simp] theorem readPair_x (l h : Addr) : (s.readPair l h).state.x = s.x := rfl
@[simp] theorem readPair_y (l h : Addr) : (s.readPair l h).state.y = s.y := rfl
@[simp] theorem readPair_sp (l h : Addr) : (s.readPair l h).state.sp = s.sp := rfl
@[simp] theorem readPair_p (l h : Addr) : (s.readPair l h).state.p = s.p := rfl
@[simp] theorem readPair_pc (l h : Addr) : (s.readPair l h).state.pc = s.pc := rfl
@[simp] theorem readPair_mode (l h : Addr) : (s.readPair l h).state.mode = s.mode := rfl
@[simp] theorem readPair_devices (l h : Addr) : (s.readPair l h).state.devices = busAfterRead (busAfterRead s.devices l) h := rfl
@[simp] theorem readPair_config (l h : Addr) : (s.readPair l h).state.config = s.config := rfl
@[simp] theorem readPair_schedule (l h : Addr) : (s.readPair l h).state.schedule = s.schedule := rfl
@[simp] theorem readPair_cycles (l h : Addr) : (s.readPair l h).state.cycles = s.cycles := rfl
@[simp] theorem readPair_report (l h : Addr) : (s.readPair l h).state.report = s.report := rfl

@[simp] theorem read16_a (w : Addr) : (s.read16 w).state.a = s.a := rfl
@[simp] theorem read16_x (w : Addr) : (s.read16 w).state.x = s.x := rfl
@[simp] theorem read16_y (w : Addr) : (s.read16 w).state.y = s.y := rfl
@[simp] theorem read16_sp (w : Addr) : (s.read16 w).state.sp = s.sp := rfl
@[simp] theorem read16_p (w : Addr) : (s.read16 w).state.p = s.p := rfl
@[simp] theorem read16_pc (w : Addr) : (s.read16 w).state.pc = s.pc := rfl
@[simp] theorem read16_mode (w : Addr) : (s.read16 w).state.mode = s.mode := rfl
@[simp] theorem read16_devices (w : Addr) : (s.read16 w).state.devices = busAfterRead (busAfterRead s.devices w) (w + 1) := rfl
@[simp] theorem read16_config (w : Addr) : (s.read16 w).state.config = s.config := rfl
@[simp] theorem read16_schedule (w : Addr) : (s.read16 w).state.schedule = s.schedule := rfl
@[simp] theorem read16_cycles (w : Addr) : (s.read16 w).state.cycles = s.cycles := rfl
@[simp] theorem read16_report (w : Addr) : (s.read16 w).state.report = s.report := rfl

@[simp] theorem pushWord_a (w : Addr) : (s.pushWord w).a = s.a := rfl
@[simp] theorem pushWord_x (w : Addr) : (s.pushWord w).x = s.x := rfl
@[simp] theorem pushWord_y (w : Addr) : (s.pushWord w).y = s.y := rfl
@[simp] theorem pushWord_sp (w : Addr) : (s.pushWord w).sp = s.sp - 1 - 1 := rfl
@[simp] theorem pushWord_p (w : Addr) : (s.pushWord w).p = s.p := rfl
@[simp] theorem pushWord_pc (w : Addr) : (s.pushWord w).pc = s.pc := rfl
@[simp] theorem pushWord_mode (w : Addr) : (s.pushWord w).mode = s.mode := rfl
@[simp] theorem pushWord_devices (w : Addr) : (s.pushWord w).devices = busAfterWrite (busAfterWrite s.devices (stackAddr s.sp) (highByte w)) (stackAddr (s.sp - 1)) (lowByte w) := rfl
@[simp] theorem pushWord_config (w : Addr) : (s.pushWord w).config = s.config := rfl
@[simp] theorem pushWord_schedule (w : Addr) : (s.pushWord w).schedule = s.schedule := rfl
@[simp] theorem pushWord_cycles (w : Addr) : (s.pushWord w).cycles = s.cycles := rfl
@[simp] theorem pushWord_report (w : Addr) : (s.pushWord w).report = s.report := rfl

@[simp] theorem pullWord_a : (s.pullWord.state).a = s.a := rfl
@[simp] theorem pullWord_x : (s.pullWord.state).x = s.x := rfl
@[simp] theorem pullWord_y : (s.pullWord.state).y = s.y := rfl
@[simp] theorem pullWord_sp : (s.pullWord.state).sp = s.sp + 1 + 1 := rfl
@[simp] theorem pullWord_p : (s.pullWord.state).p = s.p := rfl
@[simp] theorem pullWord_pc : (s.pullWord.state).pc = s.pc := rfl
@[simp] theorem pullWord_mode : (s.pullWord.state).mode = s.mode := rfl
@[simp] theorem pullWord_devices : (s.pullWord.state).devices = busAfterRead (busAfterRead s.devices (stackAddr (s.sp + 1))) (stackAddr (s.sp + 1 + 1)) := rfl
@[simp] theorem pullWord_config : (s.pullWord.state).config = s.config := rfl
@[simp] theorem pullWord_schedule : (s.pullWord.state).schedule = s.schedule := rfl
@[simp] theorem pullWord_cycles : (s.pullWord.state).cycles = s.cycles := rfl
@[simp] theorem pullWord_report : (s.pullWord.state).report = s.report := rfl

end updates

/-- A read or a write looks at the devices alone. -/
theorem byteAt_eq (s : State) (w : Addr) : s.byteAt w = busReadValue s.devices w := rfl

theorem flag_eq (s : State) (f : Flag) : s.flag f = statusGet s.p f := rfl

/-- Two states are equal when their fields are. -/
theorem state_ext (s t : State) (ha : s.a = t.a) (hx : s.x = t.x) (hy : s.y = t.y) (hsp : s.sp = t.sp) (hp : s.p = t.p)
    (hpc : s.pc = t.pc) (hm : s.mode = t.mode) (hd : s.devices = t.devices) (hc : s.config = t.config)
    (hs : s.schedule = t.schedule) (hcy : s.cycles = t.cycles) (hr : s.report = t.report) (hac : s.accesses = t.accesses) :
    s = t := by
  cases s
  cases t
  simp_all

end Sys2Proof.Laws
end

