-- ==== Sys2Proof/Laws/Memory.lean ====
section
/-! SUPPORT. A block's bytes: reading after a write, and the canonical form that every write keeps. -/

namespace Sys2Proof.Laws
open Sys2Proof.Machine

theorem read_insert (fill : Byte) (m : Memory) (i j : Nat) (v : Byte) (h : ∀ c ∈ m, c.1 ≠ i) :
    Memory.read fill (Memory.insert i v m) j = if i = j then v else Memory.read fill m j := by
  induction m with
  | nil => simp [Memory.insert, Memory.read]
  | cons c rest ih =>
    obtain ⟨k, w⟩ := c
    have hk : k ≠ i := h (k, w) (by simp)
    have ih' := ih fun c hc => h c (by simp [hc])
    simp only [Memory.insert]
    split
    · simp [Memory.read]
    · simp only [Memory.read, ih']
      split <;> split <;> simp_all

theorem read_filter (fill : Byte) (m : Memory) (i j : Nat) :
    Memory.read fill (m.filter fun c => decide (c.1 ≠ i)) j = if i = j then fill else Memory.read fill m j := by
  induction m with
  | nil => simp [Memory.read]
  | cons c rest ih =>
    obtain ⟨k, w⟩ := c
    by_cases hk : k = i
    · subst hk
      rw [List.filter_cons_of_neg (by simp), ih]
      by_cases h : k = j <;> simp [Memory.read, h]
    · rw [List.filter_cons_of_pos (by simpa using hk)]
      simp only [Memory.read, ih]
      split <;> split <;> simp_all

/-- The byte written is read back, and every other byte is as before (R56), on any list of bytes. -/
@[simp] theorem read_write (fill : Byte) (m : Memory) (i j : Nat) (v : Byte) :
    Memory.read fill (Memory.write fill m i v) j = if i = j then v else Memory.read fill m j := by
  unfold Memory.write
  split
  · rename_i h
    rw [read_filter, h]
  · rw [read_insert _ _ _ _ _ (by simp), read_filter]
    split <;> simp_all

theorem mem_insert (i : Nat) (v : Byte) (m : Memory) (c : Host.Cell) :
    c ∈ Memory.insert i v m ↔ c = (i, v) ∨ c ∈ m := by
  induction m with
  | nil => simp [Memory.insert]
  | cons d rest ih =>
    obtain ⟨k, w⟩ := d
    simp only [Memory.insert]
    split
    · simp
    · simp only [List.mem_cons, ih]
      tauto

theorem pairwise_insert (i : Nat) (v : Byte) (m : Memory) (hm : m.Pairwise fun c d => c.1 < d.1) (h : ∀ c ∈ m, c.1 ≠ i) :
    (Memory.insert i v m).Pairwise fun c d => c.1 < d.1 := by
  induction m with
  | nil => simp [Memory.insert]
  | cons d rest ih =>
    obtain ⟨k, w⟩ := d
    have hk : k ≠ i := h (k, w) (by simp)
    rw [List.pairwise_cons] at hm
    simp only [Memory.insert]
    split
    · rename_i hlt
      simp only [List.pairwise_cons, List.mem_cons]
      refine ⟨?_, hm⟩
      rintro c (rfl | hc)
      · exact hlt
      · exact lt_trans hlt (hm.1 c hc)
    · rename_i hge
      rw [List.pairwise_cons]
      refine ⟨?_, ih hm.2 fun c hc => h c (by simp [hc])⟩
      intro c hc
      rw [mem_insert] at hc
      rcases hc with rfl | hc
      · show k < i
        omega
      · exact hm.1 c hc

/-- Every write inside the array keeps the canonical form. -/
theorem wf_write (fill : Byte) (size : Nat) (m : Memory) (i : Nat) (v : Byte) (hm : Memory.wf fill size m) (hi : i < size) :
    Memory.wf fill size (Memory.write fill m i v) := by
  have hp : (m.filter fun c => decide (c.1 ≠ i)).Pairwise fun c d => c.1 < d.1 := hm.1.filter _
  have ha : ∀ c ∈ m.filter fun c => decide (c.1 ≠ i), c.1 < size ∧ c.2 ≠ fill := fun c hc =>
    hm.2 c (List.mem_of_mem_filter hc)
  unfold Memory.write
  split
  · exact ⟨hp, ha⟩
  · rename_i hv
    refine ⟨pairwise_insert _ _ _ hp (by simp), ?_⟩
    intro c hc
    rw [mem_insert] at hc
    rcases hc with rfl | hc
    · exact ⟨hi, hv⟩
    · exact ha c hc

end Sys2Proof.Laws
end

