-- ==== Sys2Proof/Laws/Bus.lean ====
section
/-! SUPPORT. The Bus: what a read and a write do to every device, once. `DevFrame` says what a series of accesses leaves alone: the
construction of every device, every stored byte and every look at an address but at the listed ones, and well-formedness. -/

namespace Sys2Proof.Laws
open Sys2Proof.Machine

/-! ### One device -/

@[simp] theorem shape_afterRead (d : Device) (a : Addr) : (d.afterRead a).shape = d.shape := by cases d <;> rfl

@[simp] theorem shape_write (d : Device) (a : Addr) (v : Byte) : (d.write a v).shape = d.shape := by
  cases d with
  | block b => simp only [Device.write, Block.write]; split <;> rfl
  | peripheral q => rfl

@[simp] theorem shape_input (d : Device) (l : List Byte) : (d.input l).shape = d.shape := by cases d <;> rfl

/-- What a device claims is fixed by its construction (R52, R60). -/
theorem claims_shape (d : Device) (a : Addr) (r : Bool) : d.shape.claims a r = d.claims a r := by cases d <;> rfl

@[simp] theorem claims_afterRead (d : Device) (a b : Addr) (r : Bool) : (d.afterRead a).claims b r = d.claims b r := by
  rw [← claims_shape, shape_afterRead, claims_shape]

@[simp] theorem claims_write (d : Device) (a b : Addr) (v : Byte) (r : Bool) : (d.write a v).claims b r = d.claims b r := by
  rw [← claims_shape, shape_write, claims_shape]

@[simp] theorem stored_afterRead (d : Device) (a b : Addr) : (d.afterRead a).stored b = d.stored b := by cases d <;> rfl

@[simp] theorem stored_input (d : Device) (l : List Byte) (b : Addr) : (d.input l).stored b = d.stored b := by cases d <;> rfl

theorem covers_store (b : Block) (a c : Addr) (v : Byte) : (b.store a v).covers c = b.covers c := rfl

/-- A byte stored is read back, and every other byte of the block is as before (R56). -/
theorem read_store (b : Block) (a c : Addr) (v : Byte) (ha : b.covers a = true) (hc : b.covers c = true) :
    (b.store a v).read c = if a = c then v else b.read c := by
  simp only [Block.covers, Bool.and_eq_true, decide_eq_true_eq] at ha hc
  have h : (b.index a = b.index c) ↔ a = c := by
    unfold Block.index
    constructor
    · intro h
      apply BitVec.eq_of_toNat_eq
      omega
    · rintro rfl
      rfl
  show Memory.read b.fill (Memory.write b.fill b.data (b.index a) v) (b.index c) = _
  simp only [read_write, h]
  rfl

/-- A device that takes a write changes no stored byte but the one at the address written. -/
theorem stored_write (d : Device) (a c : Addr) (v : Byte) (h : d.claims a false = true) (hc : c ≠ a) :
    (d.write a v).stored c = d.stored c := by
  cases d with
  | peripheral q => rfl
  | block b =>
    simp only [Device.claims, Bool.and_eq_true, Bool.false_or] at h
    simp only [Device.write, Block.write, Device.stored]
    split
    · rfl
    · rw [covers_store]
      split
      · rename_i hcc
        rw [read_store b a c v h.1 hcc, if_neg fun e => hc e.symm]
      · rfl

theorem wf_afterRead (d : Device) (a : Addr) (h : d.wf) : (d.afterRead a).wf := by cases d <;> exact h

theorem wf_input (d : Device) (l : List Byte) (h : d.wf) : (d.input l).wf := by cases d <;> exact h

theorem wf_store (b : Block) (a : Addr) (v : Byte) (hc : b.covers a = true) (h : (Device.block b).wf) :
    (Device.block (b.store a v)).wf := by
  refine ⟨h.1, wf_write _ _ _ _ _ h.2 ?_⟩
  show b.index a < b.size
  simp only [Block.covers, Bool.and_eq_true, decide_eq_true_eq] at hc
  simp only [Block.index, Block.size]
  omega

/-- A device that takes a write it claims stays well-formed: the index lies in the array. -/
theorem wf_write_device (d : Device) (a : Addr) (v : Byte) (hc : d.claims a false = true) (h : d.wf) : (d.write a v).wf := by
  cases d with
  | peripheral q => exact h
  | block b =>
    simp only [Device.claims, Bool.and_eq_true] at hc
    simp only [Device.write, Block.write]
    split
    · exact h
    · exact wf_store b a v hc.1 h

/-- A look at an address a block answers is what a read of it returns. -/
theorem stored_readValue (d : Device) (a : Addr) (v : Byte) (h : d.stored a = some v) : d.readValue a = v ∧ d.afterRead a = d := by
  cases d with
  | peripheral q => cases h
  | block b =>
    simp only [Device.stored] at h
    split at h
    · exact ⟨Option.some.inj h, rfl⟩
    · cases h

/-! ### The list of devices -/

/-- What accesses to the addresses `addrs` leave alone when they write there, and reads anywhere. -/
structure DevFrame (addrs : List Addr) (ds es : List Device) : Prop where
  shape  : es.map Device.shape = ds.map Device.shape
  stored : ∀ c, c ∉ addrs → ∀ k : Nat, (es[k]?).bind (·.stored c) = (ds[k]?).bind (·.stored c)
  peek   : ∀ c, c ∉ addrs → peekDevices es c = peekDevices ds c
  wf     : (∀ d ∈ ds, d.wf) → ∀ d ∈ es, d.wf

theorem DevFrame.refl (addrs : List Addr) (ds : List Device) : DevFrame addrs ds ds :=
  ⟨rfl, fun _ _ _ => rfl, fun _ _ => rfl, id⟩

theorem DevFrame.trans {l m : List Addr} {ds es fs : List Device} (h : DevFrame l ds es) (g : DevFrame m es fs) :
    DevFrame (l ++ m) ds fs where
  shape := g.shape.trans h.shape
  stored c hc k := by
    simp only [List.mem_append, not_or] at hc
    rw [g.stored c hc.2 k, h.stored c hc.1 k]
  peek c hc := by
    simp only [List.mem_append, not_or] at hc
    rw [g.peek c hc.2, h.peek c hc.1]
  wf hd := g.wf (h.wf hd)

theorem DevFrame.mono {l m : List Addr} {ds es : List Device} (h : DevFrame l ds es) (hl : ∀ a ∈ l, a ∈ m) :
    DevFrame m ds es :=
  ⟨h.shape, fun c hc k => h.stored c (fun hm => hc (hl c hm)) k, fun c hc => h.peek c (fun hm => hc (hl c hm)), h.wf⟩

/-- Changing the head of a list of devices to one that keeps its construction, its bytes away from `addrs`, and
well-formedness. -/
theorem DevFrame.cons {addrs : List Addr} {d e : Device} {ds es : List Device} (hs : e.shape = d.shape)
    (hst : ∀ c, c ∉ addrs → e.stored c = d.stored c) (hw : d.wf → e.wf) (h : DevFrame addrs ds es) :
    DevFrame addrs (d :: ds) (e :: es) where
  shape := by simp [hs, h.shape]
  stored c hc k := by
    cases k with
    | zero => simpa using hst c hc
    | succ n => simpa using h.stored c hc n
  peek c hc := by
    have : e.claims c true = d.claims c true := by rw [← claims_shape, hs, claims_shape]
    simp only [peekDevices, this, hst c hc, h.peek c hc]
  wf hd f hf := by
    rcases List.mem_cons.mp hf with rfl | hf
    · exact hw (hd d (by simp))
    · exact h.wf (fun g hg => hd g (by simp [hg])) f hf

/-- A read changes no construction and no stored byte anywhere (R56, R63). -/
theorem frame_busAfterRead (ds : List Device) (a : Addr) : DevFrame [] ds (busAfterRead ds a) := by
  induction ds with
  | nil => exact .refl _ _
  | cons d rest ih =>
    simp only [busAfterRead]
    split
    · exact .cons (by simp) (by simp) (wf_afterRead d a) (.refl _ _)
    · exact .cons rfl (fun _ _ => rfl) id ih

/-- A write changes no construction, and no stored byte but at the address written (R56, R64). -/
theorem frame_busAfterWrite (ds : List Device) (a : Addr) (v : Byte) : DevFrame [a] ds (busAfterWrite ds a v) := by
  induction ds with
  | nil => exact .refl _ _
  | cons d rest ih =>
    simp only [busAfterWrite]
    split
    · rename_i h
      exact .cons (by simp) (fun c hc => stored_write d a c v h (by simpa using hc)) (wf_write_device d a v h) (.refl _ _)
    · exact .cons rfl (fun _ _ => rfl) id ih

/-- Where a look at an address gives a byte, a read returns that byte and changes nothing (R56, R63). -/
theorem peek_read (ds : List Device) (a : Addr) (v : Byte) (h : peekDevices ds a = some v) :
    busReadValue ds a = v ∧ busAfterRead ds a = ds := by
  induction ds with
  | nil => simpa [peekDevices, busReadValue, busAfterRead] using h
  | cons d rest ih =>
    simp only [peekDevices] at h
    simp only [busReadValue, busAfterRead]
    split at h
    · rename_i hc
      have := stored_readValue d a v h
      simp [hc, this]
    · rename_i hc
      have := ih h
      simp [hc, this]

/-- The first claiming device answers (R63). -/
theorem busReadValue_split (pre post : List Device) (d : Device) (a : Addr) (hp : ∀ e ∈ pre, e.claims a true = false)
    (hd : d.claims a true = true) :
    busReadValue (pre ++ d :: post) a = d.readValue a ∧ busAfterRead (pre ++ d :: post) a = pre ++ d.afterRead a :: post := by
  induction pre with
  | nil => simp [busReadValue, busAfterRead, hd]
  | cons e rest ih =>
    have he := hp e (by simp)
    have := ih fun f hf => hp f (by simp [hf])
    simp [busReadValue, busAfterRead, he, this]

/-- The first device that claims the write takes it (R64). -/
theorem busAfterWrite_split (pre post : List Device) (d : Device) (a : Addr) (v : Byte)
    (hp : ∀ e ∈ pre, e.claims a false = false) (hd : d.claims a false = true) :
    busAfterWrite (pre ++ d :: post) a v = pre ++ d.write a v :: post := by
  induction pre with
  | nil => simp [busAfterWrite, hd]
  | cons e rest ih =>
    have he := hp e (by simp)
    have := ih fun f hf => hp f (by simp [hf])
    simp [busAfterWrite, he, this]

/-- Where one RAM block answers both directions, the byte written is what a look at the address gives (R65). -/
theorem peek_busWrite_ram (s : State) (a : Addr) (v : Byte) (h : s.ramAt a) :
    peekDevices (busAfterWrite s.devices a v) a = some v := by
  obtain ⟨pre, b, post, hd, hc, hro, hpre⟩ := h
  rw [hd, busAfterWrite_split pre post _ a v (fun e he => (hpre e he).2) (by simp [Device.claims, hc, hro])]
  clear hd
  induction pre with
  | nil => simp [peekDevices, Device.claims, Device.write, Block.write, hro, Device.stored, covers_store, hc, read_store b a a v hc hc]
  | cons e rest ih =>
    have := (hpre e (by simp)).1
    simp [peekDevices, this, ih fun f hf => hpre f (by simp [hf])]

/-- The platform decides where RAM answers: accesses that keep it keep `ramAt`. -/
theorem ramAt_of_shape (s t : State) (a : Addr) (h : t.platform = s.platform) (hs : s.ramAt a) : t.ramAt a := by
  obtain ⟨pre, b, post, hd, hc, hro, hpre⟩ := hs
  unfold State.platform at h
  rw [hd, List.map_append, List.map_cons, List.map_eq_append_iff] at h
  obtain ⟨pre', rest', ht, hp', hr'⟩ := h
  rw [List.map_eq_cons_iff] at hr'
  obtain ⟨d', post', hrest, hd', _⟩ := hr'
  have hb : ∃ b', d' = .block b' ∧ b'.covers a = true ∧ b'.readOnly = false := by
    cases d' with
    | peripheral q => simp [Device.shape] at hd'
    | block b' =>
      simp only [Device.shape, Device.block.injEq, Block.mk.injEq] at hd'
      refine ⟨b', rfl, ?_, by rw [hd'.2.2.1, hro]⟩
      rw [← hc]
      simp only [Block.covers, hd'.1, hd'.2.1]
  obtain ⟨b', rfl, hc', hro'⟩ := hb
  refine ⟨pre', b', post', by rw [ht, hrest], hc', hro', ?_⟩
  intro e he
  have : e.shape ∈ pre.map Device.shape := hp' ▸ List.mem_map_of_mem he
  obtain ⟨f, hf, hfe⟩ := List.mem_map.mp this
  have := hpre f hf
  rw [← claims_shape e a true, ← claims_shape e a false, ← hfe, claims_shape, claims_shape]
  exact this

end Sys2Proof.Laws
end

