-- ==== Sys2Proof/Laws/Decode.lean ====
section
/-! SUPPORT. The opcode map said once: which operand bytes an opcode looks at, and what of the instruction the opcode byte alone
decides (R96, R97, R100). -/

namespace Sys2Proof.Laws

/-- A claim about every byte, from the 256 numbers. -/
theorem forall_byte (P : Byte → Prop) (h : ∀ n : Nat, n < 256 → P (BitVec.ofNat 8 n)) (op : Byte) : P op := by
  simpa using h op.toNat op.isLt

/-- An opcode looks at no operand byte beyond its length (R96). -/
theorem decodeOp_operands (op b1 b2 : Byte) :
    decodeOp op b1 b2 =
      match opcodeLength op with
      | 1 => decodeOp op 0 0
      | 2 => decodeOp op b1 0
      | _ => decodeOp op b1 b2 := by
  revert op
  apply forall_byte
  intro n hn
  interval_cases n <;> rfl

theorem opcodeLength_range : ∀ op : Byte, opcodeLength op = 1 ∨ opcodeLength op = 2 ∨ opcodeLength op = 3 := by
  decide +kernel

/-- The bytes R100 lists are the ones without an instruction of their own, one byte long each (R97, R100). -/
theorem decodeOp_invalid : ∀ op : Byte, op ∈ invalidOpcodes → decodeOp op 0 0 = .invalid op ∧ opcodeLength op = 1 := by
  decide +kernel

end Sys2Proof.Laws
end

