-- ==== Sys2Proof/Laws/Flags.lean ====
section
/-! SUPPORT. The status register by bits: what a write of one flag does to every flag, and what the flag computations write. -/

namespace Sys2Proof.Laws
open Sys2Proof.Machine

/-- `P.f <- v` writes `f` and keeps every other bit (R30). -/
@[simp] theorem statusGet_statusSet (p : Byte) (f g : Flag) (v : Bool) :
    statusGet (statusSet p f v) g = if g = f then v else statusGet p g := by
  revert p
  cases f <;> cases g <;> cases v <;> decide +kernel

/-- Two status bytes with the same eight flags are the same byte (R26: the eight positions are the whole byte). -/
theorem status_ext (p q : Byte) (h : ∀ f, statusGet p f = statusGet q f) : p = q := by
  have h0 := h .c
  have h1 := h .z
  have h2 := h .i
  have h3 := h .d
  have h4 := h .b
  have h5 := h .u
  have h6 := h .v
  have h7 := h .n
  simp only [statusGet, Flag.bit] at h0 h1 h2 h3 h4 h5 h6 h7
  apply BitVec.eq_of_getLsbD_eq
  intro i hi
  have : i = 0 ∨ i = 1 ∨ i = 2 ∨ i = 3 ∨ i = 4 ∨ i = 5 ∨ i = 6 ∨ i = 7 := by omega
  rcases this with rfl | rfl | rfl | rfl | rfl | rfl | rfl | rfl <;> assumption

/-- `SetZN` writes Z and N from the byte and keeps the other six (R150). -/
@[simp] theorem statusGet_setZN (v p : Byte) (g : Flag) :
    statusGet (setZN v p) g = if g = .n then v.getLsbD 7 else if g = .z then v == 0 else statusGet p g := by
  simp only [setZN, statusGet_statusSet]

@[simp] theorem statusGet_arithStatus (o : Bool) (r : ByteCarry) (p : Byte) (g : Flag) :
    statusGet (arithStatus o r p) g =
      if g = .n then r.result.getLsbD 7 else if g = .z then r.result == 0 else if g = .c then r.carry
      else if g = .v then o else statusGet p g := by
  simp only [arithStatus, statusGet_setZN, statusGet_statusSet]

@[simp] theorem statusGet_compareStatus (r m p : Byte) (g : Flag) :
    statusGet (compareStatus r m p) g =
      if g = .n then (r - m).getLsbD 7 else if g = .z then r - m == 0 else if g = .c then decide (m.toNat ≤ r.toNat)
      else statusGet p g := by
  simp only [compareStatus, statusGet_setZN, statusGet_statusSet]

@[simp] theorem statusGet_bitStatus (a m p : Byte) (g : Flag) :
    statusGet (bitStatus a m p) g =
      if g = .v then m.getLsbD 6 else if g = .n then m.getLsbD 7 else if g = .z then (a &&& m) == 0 else statusGet p g := by
  simp only [bitStatus, statusGet_statusSet]

@[simp] theorem statusGet_shiftStatus (r : ByteCarry) (p : Byte) (g : Flag) :
    statusGet (shiftStatus r p) g =
      if g = .n then r.result.getLsbD 7 else if g = .z then r.result == 0 else if g = .c then r.carry
      else statusGet p g := by
  simp only [shiftStatus, statusGet_setZN, statusGet_statusSet]

end Sys2Proof.Laws
end

