-- ==== Sys2Proof/Laws/Operands.lean ====
section
/-! SUPPORT. The shared operations, each said once: words, stack, resolver and operand fetch touch nothing of the core but what
they are for, and leave of the devices what `DevFrame` says. -/

namespace Sys2Proof.Laws
open Sys2Proof.Machine

/-! ### Bytes and words -/

theorem toNat_wordOf (h l : Byte) : (wordOf h l).toNat = h.toNat * 256 + l.toNat := by
  have e : (wordOf h l).toNat = h.toNat <<< 8 ||| l.toNat := BitVec.toNat_append h l
  rw [e, Nat.shiftLeft_eq, Nat.mul_comm, ← Nat.two_pow_add_eq_or_of_lt l.isLt, Nat.mul_comm]

theorem toNat_lowByte (w : Addr) : (lowByte w).toNat = w.toNat % 256 := by
  simp [lowByte, BitVec.extractLsb'_toNat]

theorem toNat_highByte (w : Addr) : (highByte w).toNat = w.toNat / 256 := by
  have := w.isLt
  simp only [highByte, BitVec.extractLsb'_toNat, Nat.shiftRight_eq_div_pow]
  omega

@[simp] theorem lowByte_wordOf (h l : Byte) : lowByte (wordOf h l) = l := by
  have := l.isLt
  apply BitVec.eq_of_toNat_eq
  rw [toNat_lowByte, toNat_wordOf]
  omega

@[simp] theorem highByte_wordOf (h l : Byte) : highByte (wordOf h l) = h := by
  have := l.isLt
  apply BitVec.eq_of_toNat_eq
  rw [toNat_highByte, toNat_wordOf]
  omega

@[simp] theorem wordOf_high_low (w : Addr) : wordOf (highByte w) (lowByte w) = w := by
  apply BitVec.eq_of_toNat_eq
  rw [toNat_wordOf, toNat_lowByte, toNat_highByte]
  omega

/-! ### The core is left alone by reads -/

/-- `t` is `s` but for the devices and the accesses made. -/
def OnlyBus (s t : State) : Prop := t = { s with devices := t.devices, accesses := t.accesses }

theorem OnlyBus.refl (s : State) : OnlyBus s s := rfl

theorem OnlyBus.afterRead (s : State) (a : Addr) : OnlyBus s (s.afterRead a) := rfl

theorem OnlyBus.busWrite (s : State) (a : Addr) (v : Byte) : OnlyBus s (s.busWrite a v) := rfl

theorem OnlyBus.readPair (s : State) (l h : Addr) : OnlyBus s (s.readPair l h).state := rfl

theorem resolve_onlyBus (m : AddrMode) (s : State) : OnlyBus s (resolve m s).state := by cases m <;> rfl

theorem fetch_onlyBus (src : Source) (s : State) : OnlyBus s (src.fetch s).state := by
  cases src with
  | imm v => rfl
  | mem m => cases m <;> rfl

section resolver
variable (m : AddrMode) (s : State)

@[simp] theorem resolve_a : (resolve m s).state.a = s.a := by cases m <;> rfl
@[simp] theorem resolve_x : (resolve m s).state.x = s.x := by cases m <;> rfl
@[simp] theorem resolve_y : (resolve m s).state.y = s.y := by cases m <;> rfl
@[simp] theorem resolve_sp : (resolve m s).state.sp = s.sp := by cases m <;> rfl
@[simp] theorem resolve_p : (resolve m s).state.p = s.p := by cases m <;> rfl
@[simp] theorem resolve_pc : (resolve m s).state.pc = s.pc := by cases m <;> rfl
@[simp] theorem resolve_mode : (resolve m s).state.mode = s.mode := by cases m <;> rfl
@[simp] theorem resolve_config : (resolve m s).state.config = s.config := by cases m <;> rfl
@[simp] theorem resolve_schedule : (resolve m s).state.schedule = s.schedule := by cases m <;> rfl
@[simp] theorem resolve_cycles : (resolve m s).state.cycles = s.cycles := by cases m <;> rfl
@[simp] theorem resolve_report : (resolve m s).state.report = s.report := by cases m <;> rfl

end resolver

section operand
variable (src : Source) (s : State)

@[simp] theorem fetch_a : (src.fetch s).state.a = s.a := by cases src <;> simp [Source.fetch]
@[simp] theorem fetch_x : (src.fetch s).state.x = s.x := by cases src <;> simp [Source.fetch]
@[simp] theorem fetch_y : (src.fetch s).state.y = s.y := by cases src <;> simp [Source.fetch]
@[simp] theorem fetch_sp : (src.fetch s).state.sp = s.sp := by cases src <;> simp [Source.fetch]
@[simp] theorem fetch_p : (src.fetch s).state.p = s.p := by cases src <;> simp [Source.fetch]
@[simp] theorem fetch_pc : (src.fetch s).state.pc = s.pc := by cases src <;> simp [Source.fetch]
@[simp] theorem fetch_mode : (src.fetch s).state.mode = s.mode := by cases src <;> simp [Source.fetch]
@[simp] theorem fetch_config : (src.fetch s).state.config = s.config := by cases src <;> simp [Source.fetch]
@[simp] theorem fetch_schedule : (src.fetch s).state.schedule = s.schedule := by cases src <;> simp [Source.fetch]
@[simp] theorem fetch_cycles : (src.fetch s).state.cycles = s.cycles := by cases src <;> simp [Source.fetch]
@[simp] theorem fetch_report : (src.fetch s).state.report = s.report := by cases src <;> simp [Source.fetch]

end operand

/-! ### What each operation leaves of the devices -/

theorem frame_afterRead (s : State) (a : Addr) : DevFrame [] s.devices (s.afterRead a).devices :=
  frame_busAfterRead s.devices a

theorem frame_busWrite (s : State) (a : Addr) (v : Byte) : DevFrame [a] s.devices (s.busWrite a v).devices :=
  frame_busAfterWrite s.devices a v

theorem frame_readPair (s : State) (l h : Addr) : DevFrame [] s.devices (s.readPair l h).state.devices :=
  (frame_busAfterRead s.devices l).trans (frame_busAfterRead _ h)

theorem frame_push (s : State) (v : Byte) : DevFrame [stackAddr s.sp] s.devices (s.push v).devices :=
  frame_busAfterWrite s.devices _ v

theorem frame_pull (s : State) : DevFrame [] s.devices s.pull.state.devices := frame_busAfterRead s.devices _

theorem frame_pushWord (s : State) (w : Addr) :
    DevFrame [stackAddr s.sp, stackAddr (s.sp - 1)] s.devices (s.pushWord w).devices :=
  (frame_push s _).trans (frame_push (s.push _) _)

theorem frame_pullWord (s : State) : DevFrame [] s.devices s.pullWord.state.devices :=
  (frame_pull s).trans (frame_pull s.pull.state)

theorem frame_resolve (m : AddrMode) (s : State) : DevFrame [] s.devices (resolve m s).state.devices := by
  cases m with
  | ind w => exact frame_readPair s _ _
  | indx b => exact frame_readPair s _ _
  | indy b => exact frame_readPair s _ _
  | _ => exact .refl _ _

theorem frame_fetch (src : Source) (s : State) : DevFrame [] s.devices (src.fetch s).state.devices := by
  cases src with
  | imm v => exact .refl _ _
  | mem m => exact (frame_resolve m s).trans (frame_afterRead _ _)

/-- Interrupt entry stores to the three stack bytes at SP, SP - 1 and SP - 2 and nowhere else (R251). -/
theorem frame_intSeq (s : State) (vec : Addr) :
    DevFrame [stackAddr s.sp, stackAddr (s.sp - 1), stackAddr (s.sp - 1 - 1)] s.devices (s.intSeq vec).devices := by
  have h1 := (frame_pushWord s s.pc).trans (frame_push (s.pushWord s.pc) s.p)
  have h2 := h1.trans (frame_readPair ((s.pushWord s.pc).push s.p) vec (vec + 1))
  simp only [List.append_nil] at h2
  exact h2

theorem frame_returnFromInterrupt (s : State) : DevFrame [] s.devices s.returnFromInterrupt.devices :=
  (frame_pull s).trans (frame_pullWord (s.pull.state.setP s.pull.value))

/-! ### The accesses each operation makes -/

/-- The resolver makes reads only: none, or the two of a pointer (R110). -/
theorem resolve_accesses (m : AddrMode) (s : State) :
    ∃ l, (resolve m s).state.accesses = s.accesses ++ l ∧ ∀ a v, BusAccess.write a v ∉ l := by
  cases m with
  | ind w => exact ⟨_, by simp [resolve, State.read16Page, State.readPair]; rfl, by simp⟩
  | indx b => exact ⟨_, by simp [resolve, State.read16ZP, State.readPair]; rfl, by simp⟩
  | indy b => exact ⟨_, by simp [resolve, State.read16ZP, State.readPair]; rfl, by simp⟩
  | _ => exact ⟨[], by simp [resolve], by simp⟩

/-- The operand of an instruction that reads is fetched by reads only (R128). -/
theorem fetch_accesses (src : Source) (s : State) :
    ∃ l, (src.fetch s).state.accesses = s.accesses ++ l ∧ ∀ a v, BusAccess.write a v ∉ l := by
  cases src with
  | imm v => exact ⟨[], by simp [Source.fetch], by simp⟩
  | mem m =>
    obtain ⟨l, h, hl⟩ := resolve_accesses m s
    exact ⟨l ++ [_], by simp only [Source.fetch, afterRead_accesses, h, List.append_assoc]; rfl, by simp [hl]⟩

section interrupt
variable (s : State) (vec : Addr)

@[simp] theorem intSeq_a : (s.intSeq vec).a = s.a := by simp [State.intSeq]
@[simp] theorem intSeq_x : (s.intSeq vec).x = s.x := by simp [State.intSeq]
@[simp] theorem intSeq_y : (s.intSeq vec).y = s.y := by simp [State.intSeq]
@[simp] theorem intSeq_sp : (s.intSeq vec).sp = s.sp - 1 - 1 - 1 := by simp [State.intSeq]
@[simp] theorem intSeq_mode : (s.intSeq vec).mode = s.mode := by simp [State.intSeq]
@[simp] theorem intSeq_config : (s.intSeq vec).config = s.config := by simp [State.intSeq]
@[simp] theorem intSeq_schedule : (s.intSeq vec).schedule = s.schedule := by simp [State.intSeq]
@[simp] theorem intSeq_cycles : (s.intSeq vec).cycles = s.cycles := by simp [State.intSeq]
@[simp] theorem intSeq_report : (s.intSeq vec).report = s.report := by simp [State.intSeq]

/-- Interrupt entry changes no flag, but I where `IRQ_ENTRY_SETS_I` holds (R254). -/
@[simp] theorem intSeq_p : (s.intSeq vec).p = if s.config.irqEntrySetsI then statusSet s.p .i true else s.p := by simp [State.intSeq]

end interrupt

end Sys2Proof.Laws
end

