-- ==== Sys2Proof/Laws/PerInstr.lean ====
section
/-! SUPPORT. Laws said of every instruction as syntax, one lemma a constructor: the encoder gives as many bytes as the format has
(R90, R91), and the first of them is an opcode whose length is that number, so that a decoder finds the length from it alone (R96). -/

namespace Sys2Proof.Laws.EncodeLength

/-- The encoding has the length of the instruction's format (R91). -/
def Statement (i : Instr) : Prop := (encode i).length = i.length

theorem ldaImm (v : Byte) : Statement (.ldaImm v) := rfl
theorem ldaZp (b : Byte) : Statement (.ldaZp b) := rfl
theorem ldaZpx (b : Byte) : Statement (.ldaZpx b) := rfl
theorem ldaAbs (w : Addr) : Statement (.ldaAbs w) := rfl
theorem ldaAbsx (w : Addr) : Statement (.ldaAbsx w) := rfl
theorem ldaAbsy (w : Addr) : Statement (.ldaAbsy w) := rfl
theorem ldaIndx (b : Byte) : Statement (.ldaIndx b) := rfl
theorem ldaIndy (b : Byte) : Statement (.ldaIndy b) := rfl
theorem ldxImm (v : Byte) : Statement (.ldxImm v) := rfl
theorem ldxZp (b : Byte) : Statement (.ldxZp b) := rfl
theorem ldxZpy (b : Byte) : Statement (.ldxZpy b) := rfl
theorem ldxAbs (w : Addr) : Statement (.ldxAbs w) := rfl
theorem ldxAbsy (w : Addr) : Statement (.ldxAbsy w) := rfl
theorem ldyImm (v : Byte) : Statement (.ldyImm v) := rfl
theorem ldyZp (b : Byte) : Statement (.ldyZp b) := rfl
theorem ldyZpx (b : Byte) : Statement (.ldyZpx b) := rfl
theorem ldyAbs (w : Addr) : Statement (.ldyAbs w) := rfl
theorem ldyAbsx (w : Addr) : Statement (.ldyAbsx w) := rfl
theorem staZp (b : Byte) : Statement (.staZp b) := rfl
theorem staZpx (b : Byte) : Statement (.staZpx b) := rfl
theorem staAbs (w : Addr) : Statement (.staAbs w) := rfl
theorem staAbsx (w : Addr) : Statement (.staAbsx w) := rfl
theorem staAbsy (w : Addr) : Statement (.staAbsy w) := rfl
theorem staIndx (b : Byte) : Statement (.staIndx b) := rfl
theorem staIndy (b : Byte) : Statement (.staIndy b) := rfl
theorem stxZp (b : Byte) : Statement (.stxZp b) := rfl
theorem stxZpy (b : Byte) : Statement (.stxZpy b) := rfl
theorem stxAbs (w : Addr) : Statement (.stxAbs w) := rfl
theorem styZp (b : Byte) : Statement (.styZp b) := rfl
theorem styZpx (b : Byte) : Statement (.styZpx b) := rfl
theorem styAbs (w : Addr) : Statement (.styAbs w) := rfl
theorem tax : Statement (.tax) := rfl
theorem tay : Statement (.tay) := rfl
theorem txa : Statement (.txa) := rfl
theorem tya : Statement (.tya) := rfl
theorem tsx : Statement (.tsx) := rfl
theorem txs : Statement (.txs) := rfl
theorem adcImm (v : Byte) : Statement (.adcImm v) := rfl
theorem adcZp (b : Byte) : Statement (.adcZp b) := rfl
theorem adcZpx (b : Byte) : Statement (.adcZpx b) := rfl
theorem adcAbs (w : Addr) : Statement (.adcAbs w) := rfl
theorem adcAbsx (w : Addr) : Statement (.adcAbsx w) := rfl
theorem adcAbsy (w : Addr) : Statement (.adcAbsy w) := rfl
theorem adcIndx (b : Byte) : Statement (.adcIndx b) := rfl
theorem adcIndy (b : Byte) : Statement (.adcIndy b) := rfl
theorem sbcImm (v : Byte) : Statement (.sbcImm v) := rfl
theorem sbcZp (b : Byte) : Statement (.sbcZp b) := rfl
theorem sbcZpx (b : Byte) : Statement (.sbcZpx b) := rfl
theorem sbcAbs (w : Addr) : Statement (.sbcAbs w) := rfl
theorem sbcAbsx (w : Addr) : Statement (.sbcAbsx w) := rfl
theorem sbcAbsy (w : Addr) : Statement (.sbcAbsy w) := rfl
theorem sbcIndx (b : Byte) : Statement (.sbcIndx b) := rfl
theorem sbcIndy (b : Byte) : Statement (.sbcIndy b) := rfl
theorem cmpImm (v : Byte) : Statement (.cmpImm v) := rfl
theorem cmpZp (b : Byte) : Statement (.cmpZp b) := rfl
theorem cmpZpx (b : Byte) : Statement (.cmpZpx b) := rfl
theorem cmpAbs (w : Addr) : Statement (.cmpAbs w) := rfl
theorem cmpAbsx (w : Addr) : Statement (.cmpAbsx w) := rfl
theorem cmpAbsy (w : Addr) : Statement (.cmpAbsy w) := rfl
theorem cmpIndx (b : Byte) : Statement (.cmpIndx b) := rfl
theorem cmpIndy (b : Byte) : Statement (.cmpIndy b) := rfl
theorem cpxImm (v : Byte) : Statement (.cpxImm v) := rfl
theorem cpxZp (b : Byte) : Statement (.cpxZp b) := rfl
theorem cpxAbs (w : Addr) : Statement (.cpxAbs w) := rfl
theorem cpyImm (v : Byte) : Statement (.cpyImm v) := rfl
theorem cpyZp (b : Byte) : Statement (.cpyZp b) := rfl
theorem cpyAbs (w : Addr) : Statement (.cpyAbs w) := rfl
theorem andImm (v : Byte) : Statement (.andImm v) := rfl
theorem andZp (b : Byte) : Statement (.andZp b) := rfl
theorem andZpx (b : Byte) : Statement (.andZpx b) := rfl
theorem andAbs (w : Addr) : Statement (.andAbs w) := rfl
theorem andAbsx (w : Addr) : Statement (.andAbsx w) := rfl
theorem andAbsy (w : Addr) : Statement (.andAbsy w) := rfl
theorem andIndx (b : Byte) : Statement (.andIndx b) := rfl
theorem andIndy (b : Byte) : Statement (.andIndy b) := rfl
theorem oraImm (v : Byte) : Statement (.oraImm v) := rfl
theorem oraZp (b : Byte) : Statement (.oraZp b) := rfl
theorem oraZpx (b : Byte) : Statement (.oraZpx b) := rfl
theorem oraAbs (w : Addr) : Statement (.oraAbs w) := rfl
theorem oraAbsx (w : Addr) : Statement (.oraAbsx w) := rfl
theorem oraAbsy (w : Addr) : Statement (.oraAbsy w) := rfl
theorem oraIndx (b : Byte) : Statement (.oraIndx b) := rfl
theorem oraIndy (b : Byte) : Statement (.oraIndy b) := rfl
theorem eorImm (v : Byte) : Statement (.eorImm v) := rfl
theorem eorZp (b : Byte) : Statement (.eorZp b) := rfl
theorem eorZpx (b : Byte) : Statement (.eorZpx b) := rfl
theorem eorAbs (w : Addr) : Statement (.eorAbs w) := rfl
theorem eorAbsx (w : Addr) : Statement (.eorAbsx w) := rfl
theorem eorAbsy (w : Addr) : Statement (.eorAbsy w) := rfl
theorem eorIndx (b : Byte) : Statement (.eorIndx b) := rfl
theorem eorIndy (b : Byte) : Statement (.eorIndy b) := rfl
theorem bitZp (b : Byte) : Statement (.bitZp b) := rfl
theorem bitAbs (w : Addr) : Statement (.bitAbs w) := rfl
theorem aslAcc : Statement (.aslAcc) := rfl
theorem aslZp (b : Byte) : Statement (.aslZp b) := rfl
theorem aslZpx (b : Byte) : Statement (.aslZpx b) := rfl
theorem aslAbs (w : Addr) : Statement (.aslAbs w) := rfl
theorem aslAbsx (w : Addr) : Statement (.aslAbsx w) := rfl
theorem lsrAcc : Statement (.lsrAcc) := rfl
theorem lsrZp (b : Byte) : Statement (.lsrZp b) := rfl
theorem lsrZpx (b : Byte) : Statement (.lsrZpx b) := rfl
theorem lsrAbs (w : Addr) : Statement (.lsrAbs w) := rfl
theorem lsrAbsx (w : Addr) : Statement (.lsrAbsx w) := rfl
theorem rolAcc : Statement (.rolAcc) := rfl
theorem rolZp (b : Byte) : Statement (.rolZp b) := rfl
theorem rolZpx (b : Byte) : Statement (.rolZpx b) := rfl
theorem rolAbs (w : Addr) : Statement (.rolAbs w) := rfl
theorem rolAbsx (w : Addr) : Statement (.rolAbsx w) := rfl
theorem rorAcc : Statement (.rorAcc) := rfl
theorem rorZp (b : Byte) : Statement (.rorZp b) := rfl
theorem rorZpx (b : Byte) : Statement (.rorZpx b) := rfl
theorem rorAbs (w : Addr) : Statement (.rorAbs w) := rfl
theorem rorAbsx (w : Addr) : Statement (.rorAbsx w) := rfl
theorem incZp (b : Byte) : Statement (.incZp b) := rfl
theorem incZpx (b : Byte) : Statement (.incZpx b) := rfl
theorem incAbs (w : Addr) : Statement (.incAbs w) := rfl
theorem incAbsx (w : Addr) : Statement (.incAbsx w) := rfl
theorem decZp (b : Byte) : Statement (.decZp b) := rfl
theorem decZpx (b : Byte) : Statement (.decZpx b) := rfl
theorem decAbs (w : Addr) : Statement (.decAbs w) := rfl
theorem decAbsx (w : Addr) : Statement (.decAbsx w) := rfl
theorem inx : Statement (.inx) := rfl
theorem iny : Statement (.iny) := rfl
theorem dex : Statement (.dex) := rfl
theorem dey : Statement (.dey) := rfl
theorem bcc (d : Byte) : Statement (.bcc d) := rfl
theorem bcs (d : Byte) : Statement (.bcs d) := rfl
theorem beq (d : Byte) : Statement (.beq d) := rfl
theorem bmi (d : Byte) : Statement (.bmi d) := rfl
theorem bne (d : Byte) : Statement (.bne d) := rfl
theorem bpl (d : Byte) : Statement (.bpl d) := rfl
theorem bvc (d : Byte) : Statement (.bvc d) := rfl
theorem bvs (d : Byte) : Statement (.bvs d) := rfl
theorem jmpAbs (w : Addr) : Statement (.jmpAbs w) := rfl
theorem jmpInd (w : Addr) : Statement (.jmpInd w) := rfl
theorem jsr (w : Addr) : Statement (.jsr w) := rfl
theorem rts : Statement (.rts) := rfl
theorem pha : Statement (.pha) := rfl
theorem pla : Statement (.pla) := rfl
theorem php : Statement (.php) := rfl
theorem plp : Statement (.plp) := rfl
theorem clc : Statement (.clc) := rfl
theorem sec : Statement (.sec) := rfl
theorem cli : Statement (.cli) := rfl
theorem sei : Statement (.sei) := rfl
theorem cld : Statement (.cld) := rfl
theorem sed : Statement (.sed) := rfl
theorem clv : Statement (.clv) := rfl
theorem nop : Statement (.nop) := rfl
theorem brk : Statement (.brk) := rfl
theorem rti : Statement (.rti) := rfl
theorem invalid (op : Byte) : Statement (.invalid op) := rfl

end Sys2Proof.Laws.EncodeLength

namespace Sys2Proof.Laws.EncodeOpcode

/-- The opcode byte alone gives the length of the encoding (R96). -/
def Statement (i : Instr) : Prop := i.wf = true → (encode i).head?.map opcodeLength = some i.length

theorem ldaImm (v : Byte) : Statement (.ldaImm v) := fun _ => rfl
theorem ldaZp (b : Byte) : Statement (.ldaZp b) := fun _ => rfl
theorem ldaZpx (b : Byte) : Statement (.ldaZpx b) := fun _ => rfl
theorem ldaAbs (w : Addr) : Statement (.ldaAbs w) := fun _ => rfl
theorem ldaAbsx (w : Addr) : Statement (.ldaAbsx w) := fun _ => rfl
theorem ldaAbsy (w : Addr) : Statement (.ldaAbsy w) := fun _ => rfl
theorem ldaIndx (b : Byte) : Statement (.ldaIndx b) := fun _ => rfl
theorem ldaIndy (b : Byte) : Statement (.ldaIndy b) := fun _ => rfl
theorem ldxImm (v : Byte) : Statement (.ldxImm v) := fun _ => rfl
theorem ldxZp (b : Byte) : Statement (.ldxZp b) := fun _ => rfl
theorem ldxZpy (b : Byte) : Statement (.ldxZpy b) := fun _ => rfl
theorem ldxAbs (w : Addr) : Statement (.ldxAbs w) := fun _ => rfl
theorem ldxAbsy (w : Addr) : Statement (.ldxAbsy w) := fun _ => rfl
theorem ldyImm (v : Byte) : Statement (.ldyImm v) := fun _ => rfl
theorem ldyZp (b : Byte) : Statement (.ldyZp b) := fun _ => rfl
theorem ldyZpx (b : Byte) : Statement (.ldyZpx b) := fun _ => rfl
theorem ldyAbs (w : Addr) : Statement (.ldyAbs w) := fun _ => rfl
theorem ldyAbsx (w : Addr) : Statement (.ldyAbsx w) := fun _ => rfl
theorem staZp (b : Byte) : Statement (.staZp b) := fun _ => rfl
theorem staZpx (b : Byte) : Statement (.staZpx b) := fun _ => rfl
theorem staAbs (w : Addr) : Statement (.staAbs w) := fun _ => rfl
theorem staAbsx (w : Addr) : Statement (.staAbsx w) := fun _ => rfl
theorem staAbsy (w : Addr) : Statement (.staAbsy w) := fun _ => rfl
theorem staIndx (b : Byte) : Statement (.staIndx b) := fun _ => rfl
theorem staIndy (b : Byte) : Statement (.staIndy b) := fun _ => rfl
theorem stxZp (b : Byte) : Statement (.stxZp b) := fun _ => rfl
theorem stxZpy (b : Byte) : Statement (.stxZpy b) := fun _ => rfl
theorem stxAbs (w : Addr) : Statement (.stxAbs w) := fun _ => rfl
theorem styZp (b : Byte) : Statement (.styZp b) := fun _ => rfl
theorem styZpx (b : Byte) : Statement (.styZpx b) := fun _ => rfl
theorem styAbs (w : Addr) : Statement (.styAbs w) := fun _ => rfl
theorem tax : Statement (.tax) := fun _ => rfl
theorem tay : Statement (.tay) := fun _ => rfl
theorem txa : Statement (.txa) := fun _ => rfl
theorem tya : Statement (.tya) := fun _ => rfl
theorem tsx : Statement (.tsx) := fun _ => rfl
theorem txs : Statement (.txs) := fun _ => rfl
theorem adcImm (v : Byte) : Statement (.adcImm v) := fun _ => rfl
theorem adcZp (b : Byte) : Statement (.adcZp b) := fun _ => rfl
theorem adcZpx (b : Byte) : Statement (.adcZpx b) := fun _ => rfl
theorem adcAbs (w : Addr) : Statement (.adcAbs w) := fun _ => rfl
theorem adcAbsx (w : Addr) : Statement (.adcAbsx w) := fun _ => rfl
theorem adcAbsy (w : Addr) : Statement (.adcAbsy w) := fun _ => rfl
theorem adcIndx (b : Byte) : Statement (.adcIndx b) := fun _ => rfl
theorem adcIndy (b : Byte) : Statement (.adcIndy b) := fun _ => rfl
theorem sbcImm (v : Byte) : Statement (.sbcImm v) := fun _ => rfl
theorem sbcZp (b : Byte) : Statement (.sbcZp b) := fun _ => rfl
theorem sbcZpx (b : Byte) : Statement (.sbcZpx b) := fun _ => rfl
theorem sbcAbs (w : Addr) : Statement (.sbcAbs w) := fun _ => rfl
theorem sbcAbsx (w : Addr) : Statement (.sbcAbsx w) := fun _ => rfl
theorem sbcAbsy (w : Addr) : Statement (.sbcAbsy w) := fun _ => rfl
theorem sbcIndx (b : Byte) : Statement (.sbcIndx b) := fun _ => rfl
theorem sbcIndy (b : Byte) : Statement (.sbcIndy b) := fun _ => rfl
theorem cmpImm (v : Byte) : Statement (.cmpImm v) := fun _ => rfl
theorem cmpZp (b : Byte) : Statement (.cmpZp b) := fun _ => rfl
theorem cmpZpx (b : Byte) : Statement (.cmpZpx b) := fun _ => rfl
theorem cmpAbs (w : Addr) : Statement (.cmpAbs w) := fun _ => rfl
theorem cmpAbsx (w : Addr) : Statement (.cmpAbsx w) := fun _ => rfl
theorem cmpAbsy (w : Addr) : Statement (.cmpAbsy w) := fun _ => rfl
theorem cmpIndx (b : Byte) : Statement (.cmpIndx b) := fun _ => rfl
theorem cmpIndy (b : Byte) : Statement (.cmpIndy b) := fun _ => rfl
theorem cpxImm (v : Byte) : Statement (.cpxImm v) := fun _ => rfl
theorem cpxZp (b : Byte) : Statement (.cpxZp b) := fun _ => rfl
theorem cpxAbs (w : Addr) : Statement (.cpxAbs w) := fun _ => rfl
theorem cpyImm (v : Byte) : Statement (.cpyImm v) := fun _ => rfl
theorem cpyZp (b : Byte) : Statement (.cpyZp b) := fun _ => rfl
theorem cpyAbs (w : Addr) : Statement (.cpyAbs w) := fun _ => rfl
theorem andImm (v : Byte) : Statement (.andImm v) := fun _ => rfl
theorem andZp (b : Byte) : Statement (.andZp b) := fun _ => rfl
theorem andZpx (b : Byte) : Statement (.andZpx b) := fun _ => rfl
theorem andAbs (w : Addr) : Statement (.andAbs w) := fun _ => rfl
theorem andAbsx (w : Addr) : Statement (.andAbsx w) := fun _ => rfl
theorem andAbsy (w : Addr) : Statement (.andAbsy w) := fun _ => rfl
theorem andIndx (b : Byte) : Statement (.andIndx b) := fun _ => rfl
theorem andIndy (b : Byte) : Statement (.andIndy b) := fun _ => rfl
theorem oraImm (v : Byte) : Statement (.oraImm v) := fun _ => rfl
theorem oraZp (b : Byte) : Statement (.oraZp b) := fun _ => rfl
theorem oraZpx (b : Byte) : Statement (.oraZpx b) := fun _ => rfl
theorem oraAbs (w : Addr) : Statement (.oraAbs w) := fun _ => rfl
theorem oraAbsx (w : Addr) : Statement (.oraAbsx w) := fun _ => rfl
theorem oraAbsy (w : Addr) : Statement (.oraAbsy w) := fun _ => rfl
theorem oraIndx (b : Byte) : Statement (.oraIndx b) := fun _ => rfl
theorem oraIndy (b : Byte) : Statement (.oraIndy b) := fun _ => rfl
theorem eorImm (v : Byte) : Statement (.eorImm v) := fun _ => rfl
theorem eorZp (b : Byte) : Statement (.eorZp b) := fun _ => rfl
theorem eorZpx (b : Byte) : Statement (.eorZpx b) := fun _ => rfl
theorem eorAbs (w : Addr) : Statement (.eorAbs w) := fun _ => rfl
theorem eorAbsx (w : Addr) : Statement (.eorAbsx w) := fun _ => rfl
theorem eorAbsy (w : Addr) : Statement (.eorAbsy w) := fun _ => rfl
theorem eorIndx (b : Byte) : Statement (.eorIndx b) := fun _ => rfl
theorem eorIndy (b : Byte) : Statement (.eorIndy b) := fun _ => rfl
theorem bitZp (b : Byte) : Statement (.bitZp b) := fun _ => rfl
theorem bitAbs (w : Addr) : Statement (.bitAbs w) := fun _ => rfl
theorem aslAcc : Statement (.aslAcc) := fun _ => rfl
theorem aslZp (b : Byte) : Statement (.aslZp b) := fun _ => rfl
theorem aslZpx (b : Byte) : Statement (.aslZpx b) := fun _ => rfl
theorem aslAbs (w : Addr) : Statement (.aslAbs w) := fun _ => rfl
theorem aslAbsx (w : Addr) : Statement (.aslAbsx w) := fun _ => rfl
theorem lsrAcc : Statement (.lsrAcc) := fun _ => rfl
theorem lsrZp (b : Byte) : Statement (.lsrZp b) := fun _ => rfl
theorem lsrZpx (b : Byte) : Statement (.lsrZpx b) := fun _ => rfl
theorem lsrAbs (w : Addr) : Statement (.lsrAbs w) := fun _ => rfl
theorem lsrAbsx (w : Addr) : Statement (.lsrAbsx w) := fun _ => rfl
theorem rolAcc : Statement (.rolAcc) := fun _ => rfl
theorem rolZp (b : Byte) : Statement (.rolZp b) := fun _ => rfl
theorem rolZpx (b : Byte) : Statement (.rolZpx b) := fun _ => rfl
theorem rolAbs (w : Addr) : Statement (.rolAbs w) := fun _ => rfl
theorem rolAbsx (w : Addr) : Statement (.rolAbsx w) := fun _ => rfl
theorem rorAcc : Statement (.rorAcc) := fun _ => rfl
theorem rorZp (b : Byte) : Statement (.rorZp b) := fun _ => rfl
theorem rorZpx (b : Byte) : Statement (.rorZpx b) := fun _ => rfl
theorem rorAbs (w : Addr) : Statement (.rorAbs w) := fun _ => rfl
theorem rorAbsx (w : Addr) : Statement (.rorAbsx w) := fun _ => rfl
theorem incZp (b : Byte) : Statement (.incZp b) := fun _ => rfl
theorem incZpx (b : Byte) : Statement (.incZpx b) := fun _ => rfl
theorem incAbs (w : Addr) : Statement (.incAbs w) := fun _ => rfl
theorem incAbsx (w : Addr) : Statement (.incAbsx w) := fun _ => rfl
theorem decZp (b : Byte) : Statement (.decZp b) := fun _ => rfl
theorem decZpx (b : Byte) : Statement (.decZpx b) := fun _ => rfl
theorem decAbs (w : Addr) : Statement (.decAbs w) := fun _ => rfl
theorem decAbsx (w : Addr) : Statement (.decAbsx w) := fun _ => rfl
theorem inx : Statement (.inx) := fun _ => rfl
theorem iny : Statement (.iny) := fun _ => rfl
theorem dex : Statement (.dex) := fun _ => rfl
theorem dey : Statement (.dey) := fun _ => rfl
theorem bcc (d : Byte) : Statement (.bcc d) := fun _ => rfl
theorem bcs (d : Byte) : Statement (.bcs d) := fun _ => rfl
theorem beq (d : Byte) : Statement (.beq d) := fun _ => rfl
theorem bmi (d : Byte) : Statement (.bmi d) := fun _ => rfl
theorem bne (d : Byte) : Statement (.bne d) := fun _ => rfl
theorem bpl (d : Byte) : Statement (.bpl d) := fun _ => rfl
theorem bvc (d : Byte) : Statement (.bvc d) := fun _ => rfl
theorem bvs (d : Byte) : Statement (.bvs d) := fun _ => rfl
theorem jmpAbs (w : Addr) : Statement (.jmpAbs w) := fun _ => rfl
theorem jmpInd (w : Addr) : Statement (.jmpInd w) := fun _ => rfl
theorem jsr (w : Addr) : Statement (.jsr w) := fun _ => rfl
theorem rts : Statement (.rts) := fun _ => rfl
theorem pha : Statement (.pha) := fun _ => rfl
theorem pla : Statement (.pla) := fun _ => rfl
theorem php : Statement (.php) := fun _ => rfl
theorem plp : Statement (.plp) := fun _ => rfl
theorem clc : Statement (.clc) := fun _ => rfl
theorem sec : Statement (.sec) := fun _ => rfl
theorem cli : Statement (.cli) := fun _ => rfl
theorem sei : Statement (.sei) := fun _ => rfl
theorem cld : Statement (.cld) := fun _ => rfl
theorem sed : Statement (.sed) := fun _ => rfl
theorem clv : Statement (.clv) := fun _ => rfl
theorem nop : Statement (.nop) := fun _ => rfl
theorem brk : Statement (.brk) := fun _ => rfl
theorem rti : Statement (.rti) := fun _ => rfl
theorem invalid (op : Byte) : Statement (.invalid op) := by
  revert op
  unfold Statement
  decide +kernel

end Sys2Proof.Laws.EncodeOpcode
end

