-- ==== Sys2Proof/Laws/Step.lean ====
section
/-! SUPPORT. The step said once: every instruction ends in a next state, what a step can be, what a fetch leaves alone, and where a
placed byte is found. -/

namespace Sys2Proof.Laws
open Sys2Proof.Machine

/-- Every instruction ends in a next state (R16, R241). -/
theorem exec_next (i : Instr) (s : State) : ∃ t, exec i s = .next t := by
  cases i <;> exact ⟨_, rfl⟩

/-- All a step with a next state can be: one event of R9, its guard included. -/
theorem step_cases {s t : State} (h : step s = .next t) :
    (s.mode = .running ∧ (s.schedule = [] ∨ s.schedule.head? = some .step) ∧
      exec (fetch { s.beginEvent with schedule := s.schedule.tail }).instr
        (fetch { s.beginEvent with schedule := s.schedule.tail }).state = .next t) ∨
    (∃ rest, s.schedule = .reset :: rest ∧ t = resetEvent { s with schedule := rest }) ∨
    (∃ rest, s.schedule = .irq :: rest ∧ s.mode = .running ∧
      t = if s.flag .i then { s.beginEvent with schedule := rest }
        else ({ s.beginEvent with schedule := rest } : State).intSeq irqVector) ∨
    (∃ rest, s.schedule = .nmi :: rest ∧ s.mode = .running ∧
      t = ({ s.beginEvent with schedule := rest } : State).intSeq nmiVector) ∨
    (∃ k data rest, s.schedule = .device k data :: rest ∧ t = deviceEvent k data { s with schedule := rest }) := by
  cases s with
  | mk a x y sp p pc mode devices config schedule cycles report accesses =>
  cases schedule with
  | nil =>
    cases mode with
    | awaitingReset => cases h
    | running => exact .inl ⟨rfl, .inl rfl, h⟩
  | cons e rest =>
    cases e with
    | step =>
      cases mode with
      | awaitingReset => cases h
      | running => exact .inl ⟨rfl, .inr rfl, h⟩
    | reset =>
      injection h with h
      exact .inr (.inl ⟨rest, rfl, h.symm⟩)
    | irq =>
      cases mode with
      | awaitingReset => cases h
      | running =>
        injection h with h
        exact .inr (.inr (.inl ⟨rest, rfl, rfl, h.symm⟩))
    | nmi =>
      cases mode with
      | awaitingReset => cases h
      | running =>
        injection h with h
        exact .inr (.inr (.inr (.inl ⟨rest, rfl, rfl, h.symm⟩)))
    | device k data =>
      injection h with h
      exact .inr (.inr (.inr (.inr ⟨k, data, rest, rfl, h.symm⟩)))

/-- The fetch of an instruction makes reads and nothing else (R72, R240). -/
theorem fetchInstr_onlyBus (s : State) : OnlyBus s (fetch s).state := by
  unfold fetch
  dsimp only
  split
  · exact .afterRead s _
  · split <;> rfl

theorem frame_fetchInstr (s : State) : DevFrame [] s.devices (fetch s).state.devices := by
  have h1 := frame_afterRead s s.pc
  have h2 := h1.trans (frame_afterRead (s.afterRead s.pc) (s.pc + 1))
  unfold fetch
  dsimp only
  split
  · exact h1
  · split
    · exact h2
    · exact h2.trans (frame_afterRead _ (s.pc + 2))

/-- A byte placed at an address is what a look there gives, and every other look is as before (log 5). -/
theorem peek_poke (s : State) (a c : Addr) (v : Byte) : (s.poke a v).peek c = if c = a then some v else s.peek c := by
  simp only [State.poke, State.peek]
  generalize s.devices = ds
  induction ds with
  | nil =>
    by_cases h : c = a
    · subst h
      simp [pokeDevices, peekDevices, Device.claims, Block.covers, Device.stored, Block.read, Memory.read]
    · have : ¬ (a.toNat ≤ c.toNat ∧ c.toNat ≤ a.toNat) := fun g => h (BitVec.eq_of_toNat_eq (by omega))
      simp [pokeDevices, peekDevices, Device.claims, Block.covers, h, this]
  | cons d rest ih =>
    cases d with
    | block b =>
      simp only [pokeDevices]
      split
      · rename_i hb
        have hb' : b.covers a = true := by simpa [Device.claims] using hb
        have e : (b.store a v).covers c = b.covers c := covers_store b a c v
        simp only [peekDevices, Device.claims, Device.stored, Bool.true_or, Bool.and_true, e]
        by_cases h : c = a
        · subst h
          simp [hb', read_store b c c v hb' hb']
        · by_cases hc : b.covers c = true
          · have hne : ¬ a = c := fun g => h g.symm
            simp [hc, h, read_store b a c v hb' hc, hne]
          · simp [hc, h]
      · rename_i hb
        simp only [peekDevices, ih]
        by_cases h : c = a
        · subst h
          simp [hb]
        · simp [h]
    | peripheral q =>
      simp only [pokeDevices]
      split
      · by_cases h : c = a
        · subst h
          simp [peekDevices, Device.claims, Block.covers, Device.stored, Block.read, Memory.read]
        · have : ¬ (a.toNat ≤ c.toNat ∧ c.toNat ≤ a.toNat) := fun g => h (BitVec.eq_of_toNat_eq (by omega))
          simp only [peekDevices, Device.claims, Block.covers, h, if_false]
          simp [this]
      · rename_i hq
        simp only [peekDevices, ih]
        by_cases h : c = a
        · subst h
          simp [hq]
        · simp [h]

end Sys2Proof.Laws
end

