-- ==== Sys2Proof/Tests/Slice0.lean ====
section
/-! SUPPORT. The model's own tests: the words of the opcode map, one step on small states with the results the spec's vectors give
(95_test_vectors.md), and for every statement with hypotheses a state that meets them. -/

namespace Sys2Proof.Tests
open Sys2Proof.Machine Sys2Proof.Stated

/-! ### Well-formedness and decoding -/

/-- An `invalid` that carries a documented opcode byte is refused (R100). -/
theorem test_wf_refuses_documented_byte : (Instr.invalid 0x69).wf = false ∧ (Instr.invalid 0x00).wf = false := by decide

theorem test_wf_accepts_invalid_byte : (Instr.invalid 0x02).wf = true ∧ (Instr.invalid 0xFF).wf = true := by decide

/-- Every word of the list decodes to its instruction, with nothing left over. -/
def decodes (rows : List (List Byte × Instr)) : Bool :=
  rows.all fun r =>
    match decode r.1 with
    | .ok (i, rest) => decide (i = r.2) && rest.isEmpty
    | .error _ => false

/-- LDA LDX LDY STA STX STY TAX TAY TXA TYA TSX TXS (R98). -/
theorem test_decode_loads_stores_transfers : decodes (
  [([0xA9, 0x56], .ldaImm 0x56), ([0xA5, 0x56], .ldaZp 0x56), ([0xB5, 0x56], .ldaZpx 0x56),
   ([0xAD, 0x34, 0x12], .ldaAbs 0x1234), ([0xBD, 0x34, 0x12], .ldaAbsx 0x1234), ([0xB9, 0x34, 0x12], .ldaAbsy 0x1234),
   ([0xA1, 0x56], .ldaIndx 0x56), ([0xB1, 0x56], .ldaIndy 0x56), ([0xA2, 0x56], .ldxImm 0x56),
   ([0xA6, 0x56], .ldxZp 0x56), ([0xB6, 0x56], .ldxZpy 0x56), ([0xAE, 0x34, 0x12], .ldxAbs 0x1234),
   ([0xBE, 0x34, 0x12], .ldxAbsy 0x1234), ([0xA0, 0x56], .ldyImm 0x56), ([0xA4, 0x56], .ldyZp 0x56),
   ([0xB4, 0x56], .ldyZpx 0x56), ([0xAC, 0x34, 0x12], .ldyAbs 0x1234), ([0xBC, 0x34, 0x12], .ldyAbsx 0x1234)] ++
  [([0x85, 0x56], .staZp 0x56), ([0x95, 0x56], .staZpx 0x56), ([0x8D, 0x34, 0x12], .staAbs 0x1234),
   ([0x9D, 0x34, 0x12], .staAbsx 0x1234), ([0x99, 0x34, 0x12], .staAbsy 0x1234), ([0x81, 0x56], .staIndx 0x56),
   ([0x91, 0x56], .staIndy 0x56), ([0x86, 0x56], .stxZp 0x56), ([0x96, 0x56], .stxZpy 0x56),
   ([0x8E, 0x34, 0x12], .stxAbs 0x1234), ([0x84, 0x56], .styZp 0x56), ([0x94, 0x56], .styZpx 0x56),
   ([0x8C, 0x34, 0x12], .styAbs 0x1234), ([0xAA], .tax), ([0xA8], .tay),
   ([0x8A], .txa), ([0x98], .tya), ([0xBA], .tsx)] ++
  [([0x9A], .txs)]) = true := by decide +kernel

/-- ADC SBC CMP CPX CPY (R98). -/
theorem test_decode_arithmetic : decodes (
  [([0x69, 0x56], .adcImm 0x56), ([0x65, 0x56], .adcZp 0x56), ([0x75, 0x56], .adcZpx 0x56),
   ([0x6D, 0x34, 0x12], .adcAbs 0x1234), ([0x7D, 0x34, 0x12], .adcAbsx 0x1234), ([0x79, 0x34, 0x12], .adcAbsy 0x1234),
   ([0x61, 0x56], .adcIndx 0x56), ([0x71, 0x56], .adcIndy 0x56), ([0xE9, 0x56], .sbcImm 0x56),
   ([0xE5, 0x56], .sbcZp 0x56), ([0xF5, 0x56], .sbcZpx 0x56), ([0xED, 0x34, 0x12], .sbcAbs 0x1234),
   ([0xFD, 0x34, 0x12], .sbcAbsx 0x1234), ([0xF9, 0x34, 0x12], .sbcAbsy 0x1234), ([0xE1, 0x56], .sbcIndx 0x56),
   ([0xF1, 0x56], .sbcIndy 0x56), ([0xC9, 0x56], .cmpImm 0x56), ([0xC5, 0x56], .cmpZp 0x56)] ++
  [([0xD5, 0x56], .cmpZpx 0x56), ([0xCD, 0x34, 0x12], .cmpAbs 0x1234), ([0xDD, 0x34, 0x12], .cmpAbsx 0x1234),
   ([0xD9, 0x34, 0x12], .cmpAbsy 0x1234), ([0xC1, 0x56], .cmpIndx 0x56), ([0xD1, 0x56], .cmpIndy 0x56),
   ([0xE0, 0x56], .cpxImm 0x56), ([0xE4, 0x56], .cpxZp 0x56), ([0xEC, 0x34, 0x12], .cpxAbs 0x1234),
   ([0xC0, 0x56], .cpyImm 0x56), ([0xC4, 0x56], .cpyZp 0x56), ([0xCC, 0x34, 0x12], .cpyAbs 0x1234)]) = true := by decide +kernel

/-- AND ORA EOR BIT (R98). -/
theorem test_decode_logic : decodes (
  [([0x29, 0x56], .andImm 0x56), ([0x25, 0x56], .andZp 0x56), ([0x35, 0x56], .andZpx 0x56),
   ([0x2D, 0x34, 0x12], .andAbs 0x1234), ([0x3D, 0x34, 0x12], .andAbsx 0x1234), ([0x39, 0x34, 0x12], .andAbsy 0x1234),
   ([0x21, 0x56], .andIndx 0x56), ([0x31, 0x56], .andIndy 0x56), ([0x09, 0x56], .oraImm 0x56),
   ([0x05, 0x56], .oraZp 0x56), ([0x15, 0x56], .oraZpx 0x56), ([0x0D, 0x34, 0x12], .oraAbs 0x1234),
   ([0x1D, 0x34, 0x12], .oraAbsx 0x1234), ([0x19, 0x34, 0x12], .oraAbsy 0x1234), ([0x01, 0x56], .oraIndx 0x56),
   ([0x11, 0x56], .oraIndy 0x56), ([0x49, 0x56], .eorImm 0x56), ([0x45, 0x56], .eorZp 0x56)] ++
  [([0x55, 0x56], .eorZpx 0x56), ([0x4D, 0x34, 0x12], .eorAbs 0x1234), ([0x5D, 0x34, 0x12], .eorAbsx 0x1234),
   ([0x59, 0x34, 0x12], .eorAbsy 0x1234), ([0x41, 0x56], .eorIndx 0x56), ([0x51, 0x56], .eorIndy 0x56),
   ([0x24, 0x56], .bitZp 0x56), ([0x2C, 0x34, 0x12], .bitAbs 0x1234)]) = true := by decide +kernel

/-- ASL LSR ROL ROR (R98). -/
theorem test_decode_shifts : decodes (
  [([0x0A], .aslAcc), ([0x06, 0x56], .aslZp 0x56), ([0x16, 0x56], .aslZpx 0x56),
   ([0x0E, 0x34, 0x12], .aslAbs 0x1234), ([0x1E, 0x34, 0x12], .aslAbsx 0x1234), ([0x4A], .lsrAcc),
   ([0x46, 0x56], .lsrZp 0x56), ([0x56, 0x56], .lsrZpx 0x56), ([0x4E, 0x34, 0x12], .lsrAbs 0x1234),
   ([0x5E, 0x34, 0x12], .lsrAbsx 0x1234), ([0x2A], .rolAcc), ([0x26, 0x56], .rolZp 0x56),
   ([0x36, 0x56], .rolZpx 0x56), ([0x2E, 0x34, 0x12], .rolAbs 0x1234), ([0x3E, 0x34, 0x12], .rolAbsx 0x1234),
   ([0x6A], .rorAcc), ([0x66, 0x56], .rorZp 0x56), ([0x76, 0x56], .rorZpx 0x56)] ++
  [([0x6E, 0x34, 0x12], .rorAbs 0x1234), ([0x7E, 0x34, 0x12], .rorAbsx 0x1234)]) = true := by decide +kernel

/-- INC DEC INX INY DEX DEY (R98). -/
theorem test_decode_increments : decodes (
  [([0xE6, 0x56], .incZp 0x56), ([0xF6, 0x56], .incZpx 0x56), ([0xEE, 0x34, 0x12], .incAbs 0x1234),
   ([0xFE, 0x34, 0x12], .incAbsx 0x1234), ([0xC6, 0x56], .decZp 0x56), ([0xD6, 0x56], .decZpx 0x56),
   ([0xCE, 0x34, 0x12], .decAbs 0x1234), ([0xDE, 0x34, 0x12], .decAbsx 0x1234), ([0xE8], .inx),
   ([0xC8], .iny), ([0xCA], .dex), ([0x88], .dey)]) = true := by decide +kernel

/-- BCC BCS BEQ BMI BNE BPL BVC BVS JMP JSR RTS (R98). -/
theorem test_decode_control : decodes (
  [([0x90, 0x56], .bcc 0x56), ([0xB0, 0x56], .bcs 0x56), ([0xF0, 0x56], .beq 0x56),
   ([0x30, 0x56], .bmi 0x56), ([0xD0, 0x56], .bne 0x56), ([0x10, 0x56], .bpl 0x56),
   ([0x50, 0x56], .bvc 0x56), ([0x70, 0x56], .bvs 0x56), ([0x4C, 0x34, 0x12], .jmpAbs 0x1234),
   ([0x6C, 0x34, 0x12], .jmpInd 0x1234), ([0x20, 0x34, 0x12], .jsr 0x1234), ([0x60], .rts)]) = true := by decide +kernel

/-- PHA PLA PHP PLP CLC SEC CLI SEI CLD SED CLV NOP BRK RTI (R98). -/
theorem test_decode_stack_flags_system : decodes (
  [([0x48], .pha), ([0x68], .pla), ([0x08], .php),
   ([0x28], .plp), ([0x18], .clc), ([0x38], .sec),
   ([0x58], .cli), ([0x78], .sei), ([0xD8], .cld),
   ([0xF8], .sed), ([0xB8], .clv), ([0xEA], .nop),
   ([0x00], .brk), ([0x40], .rti)]) = true := by decide +kernel

/-- The 105 invalid bytes as R100 prints them, each one byte long whatever follows. -/
theorem test_decode_invalid :
    (([0x02, 0x03, 0x04, 0x07, 0x0B, 0x0C, 0x0F, 0x12, 0x13, 0x14, 0x17, 0x1A, 0x1B, 0x1C, 0x1F, 0x22, 0x23, 0x27, 0x2B, 0x2F, 0x32, 0x33, 0x34, 0x37, 0x3A, 0x3B, 0x3C, 0x3F, 0x42, 0x43, 0x44, 0x47, 0x4B, 0x4F, 0x52, 0x53, 0x54, 0x57, 0x5A, 0x5B, 0x5C, 0x5F, 0x62, 0x63, 0x64, 0x67, 0x6B, 0x6F, 0x72, 0x73, 0x74, 0x77, 0x7A, 0x7B] ++
  [0x7C, 0x7F, 0x80, 0x82, 0x83, 0x87, 0x89, 0x8B, 0x8F, 0x92, 0x93, 0x97, 0x9B, 0x9C, 0x9E, 0x9F, 0xA3, 0xA7, 0xAB, 0xAF, 0xB2, 0xB3, 0xB7, 0xBB, 0xBF, 0xC2, 0xC3, 0xC7, 0xCB, 0xCF, 0xD2, 0xD3, 0xD4, 0xD7, 0xDA, 0xDB, 0xDC, 0xDF, 0xE2, 0xE3, 0xE7, 0xEB, 0xEF, 0xF2, 0xF3, 0xF4, 0xF7, 0xFA, 0xFB, 0xFC, 0xFF] : List Byte).all fun op =>
      match decode [op, 0x12, 0x34] with
      | .ok (i, rest) => decide (i = .invalid op) && decide (rest = [0x12, 0x34])
      | .error _ => false) = true := by decide +kernel

/-- Bytes that end before the operand are rejected by name (R96). -/
theorem test_decode_truncated :
    (match decode [0xAD, 0x34] with | .error e => decide (e = .missingOperand) | .ok _ => false) = true ∧
    (match decode [] with | .error e => decide (e = .noOpcode) | .ok _ => false) = true := by decide +kernel

/-- Bit 0 is the least significant bit of the first byte: `JMP $1234` is 4C 34 12 (R102). -/
theorem test_decode_table_word :
    decodeTableWord 24 0x12344C = some (.jmpAbs 0x1234) ∧ decodeTableWord 8 0xEA = some .nop ∧
    decodeTableWord 8 0x69 = some (.adcImm 0x00) ∧ decodeTableWord 8 0x80 = some (.invalid 0x80) := by decide +kernel

/-! ### Small states -/

/-- A flat RAM with the bytes listed, as 95_test_vectors.md takes it. -/
def ram (cells : Memory) : List Device := [.block { flatRam with data := cells }]

/-- A running machine with these registers on a flat RAM. -/
def before (a x y sp p : Byte) (pc : Addr) (cells : Memory) : State :=
  { State.reset with a := a, x := x, y := y, sp := sp, p := p, pc := pc, devices := ram cells }

/-- What a row of 95_test_vectors.md gives after the step: the registers, the cycles, the bytes written in order. -/
structure After where
  a      : Byte
  x      : Byte
  y      : Byte
  sp     : Byte
  p      : Byte
  pc     : Addr
  cycles : Option Nat
  writes : List (Addr × Byte)
  deriving DecidableEq, Repr

def after (o : Outcome) : Option After :=
  match o with
  | .next t =>
    some ⟨t.a, t.x, t.y, t.sp, t.p, t.pc, t.cycles, t.accesses.filterMap fun | .write a v => some (a, v) | .read _ _ => none⟩
  | .refused _ => none

/-- The accesses of the step, for the traces. -/
def trace (o : Outcome) : List BusAccess :=
  match o with
  | .next t => t.accesses
  | .refused _ => []

/-! ### Reset -/

theorem test_reset_memory_wf : Memory.wf flatRam.fill flatRam.size flatRam.data := by
  refine ⟨by decide, by decide⟩

theorem test_reset_inv : State.reset.Inv := by
  intro d hd
  obtain rfl : d = .block flatRam := by simpa [State.reset] using hd
  exact ⟨by decide, test_reset_memory_wf⟩

/-- T1, S6. -/
theorem test_T1_reset :
    (let s := { before 0x55 0x01 0x02 0x10 0xFF 0x1234 [(0xFFFD, 0x80)] with mode := .awaitingReset, schedule := [.reset] }
     after (step s) = some ⟨0x00, 0x00, 0x00, 0xFF, 0x04, 0x8000, none, []⟩ ∧
     trace (step s) = [.read 0xFFFC 0x00, .read 0xFFFD 0x80]) := by decide +kernel

/-! ### One step of each instruction, from the vectors -/

/-- V3 (95_test_vectors.md). -/
theorem test_V3_lda_sets_zn_only :
    after (step (before 0x00 0x00 0x00 0xFF 0xCF 0x0200 [(0x0200, 0xA9), (0x0201, 0x01)])) =
      some ⟨0x01, 0x00, 0x00, 0xFF, 0x4D, 0x0202, some 2, []⟩ := by decide +kernel

/-- V8 (95_test_vectors.md). -/
theorem test_V8_lda_absx_crosses_page :
    after (step (before 0x00 0x01 0x00 0xFF 0x00 0x0200 [(0x0100, 0x55), (0x0200, 0xBD), (0x0201, 0xFF)])) =
      some ⟨0x55, 0x01, 0x00, 0xFF, 0x00, 0x0203, some 5, []⟩ := by decide +kernel

/-- V16 (95_test_vectors.md). -/
theorem test_V16_ldx_zpy_wraps :
    after (step (before 0x00 0x00 0x02 0xFF 0x00 0x0200 [(0x0001, 0x80), (0x0200, 0xB6), (0x0201, 0xFF)])) =
      some ⟨0x00, 0x80, 0x02, 0xFF, 0x80, 0x0202, some 4, []⟩ := by decide +kernel

/-- V17 (95_test_vectors.md). -/
theorem test_V17_ldx_absy_zero :
    after (step (before 0x00 0x00 0x80 0xFF 0x00 0x0200 [(0x0200, 0xBE), (0x0201, 0x80), (0x0202, 0x12)])) =
      some ⟨0x00, 0x00, 0x80, 0xFF, 0x02, 0x0203, some 5, []⟩ := by decide +kernel

/-- V19 (95_test_vectors.md). -/
theorem test_V19_ldy_absx_crosses :
    after (step (before 0x00 0x01 0x00 0xFF 0x00 0x0200 [(0x0200, 0xBC), (0x0201, 0xFF), (0x0202, 0x12), (0x1300, 0x01)])) =
      some ⟨0x00, 0x01, 0x01, 0xFF, 0x00, 0x0203, some 5, []⟩ := by decide +kernel

/-- V20 (95_test_vectors.md). -/
theorem test_V20_ldy_zpx_wraps :
    after (step (before 0x00 0xF0 0x00 0xFF 0x00 0x0200 [(0x0000, 0x7E), (0x0200, 0xB4), (0x0201, 0x10)])) =
      some ⟨0x00, 0xF0, 0x7E, 0xFF, 0x00, 0x0202, some 4, []⟩ := by decide +kernel

/-- V21 (95_test_vectors.md). -/
theorem test_V21_sta_absx_no_penalty :
    after (step (before 0x5A 0x01 0x00 0xFF 0x00 0x0200 [(0x0200, 0x9D), (0x0201, 0xFF), (0x0202, 0x03)])) =
      some ⟨0x5A, 0x01, 0x00, 0xFF, 0x00, 0x0203, some 5, [(0x0400, 0x5A)]⟩ := by decide +kernel

/-- V23 (95_test_vectors.md). -/
theorem test_V23_sta_indy :
    after (step (before 0xA5 0x00 0x20 0xFF 0x00 0x0200 [(0x0010, 0xF0), (0x0011, 0x20), (0x0200, 0x91), (0x0201, 0x10)])) =
      some ⟨0xA5, 0x00, 0x20, 0xFF, 0x00, 0x0202, some 6, [(0x2110, 0xA5)]⟩ := by decide +kernel

/-- V26 (95_test_vectors.md). -/
theorem test_V26_stx_zpy_wraps :
    after (step (before 0x00 0x77 0xF8 0xFF 0x00 0x0200 [(0x0200, 0x96), (0x0201, 0x10)])) =
      some ⟨0x00, 0x77, 0xF8, 0xFF, 0x00, 0x0202, some 4, [(0x0008, 0x77)]⟩ := by decide +kernel

/-- V28 (95_test_vectors.md). -/
theorem test_V28_sty_zpx_wraps :
    after (step (before 0x00 0x20 0x66 0xFF 0x00 0x0200 [(0x0200, 0x94), (0x0201, 0xF0)])) =
      some ⟨0x00, 0x20, 0x66, 0xFF, 0x00, 0x0202, some 4, [(0x0010, 0x66)]⟩ := by decide +kernel

/-- V30 (95_test_vectors.md). -/
theorem test_V30_tax :
    after (step (before 0x00 0x05 0x00 0xFF 0x80 0x0200 [(0x0200, 0xAA)])) =
      some ⟨0x00, 0x00, 0x00, 0xFF, 0x02, 0x0201, some 2, []⟩ := by decide +kernel

/-- V31 (95_test_vectors.md). -/
theorem test_V31_tay :
    after (step (before 0x90 0x00 0x00 0xFF 0x00 0x0200 [(0x0200, 0xA8)])) =
      some ⟨0x90, 0x00, 0x90, 0xFF, 0x80, 0x0201, some 2, []⟩ := by decide +kernel

/-- V32 (95_test_vectors.md). -/
theorem test_V32_txa :
    after (step (before 0x00 0x7F 0x00 0xFF 0x82 0x0200 [(0x0200, 0x8A)])) =
      some ⟨0x7F, 0x7F, 0x00, 0xFF, 0x00, 0x0201, some 2, []⟩ := by decide +kernel

/-- V33 (95_test_vectors.md). -/
theorem test_V33_tya :
    after (step (before 0x00 0x00 0xFF 0xFF 0x00 0x0200 [(0x0200, 0x98)])) =
      some ⟨0xFF, 0x00, 0xFF, 0xFF, 0x80, 0x0201, some 2, []⟩ := by decide +kernel

/-- V34 (95_test_vectors.md). -/
theorem test_V34_tsx :
    after (step (before 0x00 0x00 0x00 0xFD 0x04 0x0200 [(0x0200, 0xBA)])) =
      some ⟨0x00, 0xFD, 0x00, 0xFD, 0x84, 0x0201, some 2, []⟩ := by decide +kernel

/-- V36 (95_test_vectors.md). -/
theorem test_V36_txs_keeps_flags :
    after (step (before 0x00 0x00 0x00 0xFF 0x80 0x0200 [(0x0200, 0x9A)])) =
      some ⟨0x00, 0x00, 0x00, 0x00, 0x80, 0x0201, some 2, []⟩ := by decide +kernel

/-- V38 (95_test_vectors.md). -/
theorem test_V38_adc_binary_carry :
    after (step (before 0x01 0x00 0x00 0xFF 0x00 0x0200 [(0x0200, 0x69), (0x0201, 0xFF)])) =
      some ⟨0x00, 0x00, 0x00, 0xFF, 0x03, 0x0202, some 2, []⟩ := by decide +kernel

/-- V65 (95_test_vectors.md). -/
theorem test_V65_adc_decimal :
    after (step (before 0x09 0x00 0x00 0xFF 0x08 0x0200 [(0x0200, 0x69), (0x0201, 0x01)])) =
      some ⟨0x10, 0x00, 0x00, 0xFF, 0x08, 0x0202, some 2, []⟩ := by decide +kernel

/-- V62 (95_test_vectors.md). -/
theorem test_V62_adc_absx_crosses :
    after (step (before 0x10 0x80 0x00 0xFF 0x01 0x0200 [(0x0200, 0x7D), (0x0201, 0x80), (0x0202, 0x02), (0x0300, 0x20)])) =
      some ⟨0x31, 0x80, 0x00, 0xFF, 0x00, 0x0203, some 5, []⟩ := by decide +kernel

/-- V54 (95_test_vectors.md). -/
theorem test_V54_sbc_overflow :
    after (step (before 0x80 0x00 0x00 0xFF 0x01 0x0200 [(0x0200, 0xE9), (0x0201, 0x01)])) =
      some ⟨0x7F, 0x00, 0x00, 0xFF, 0x41, 0x0202, some 2, []⟩ := by decide +kernel

/-- V84 (95_test_vectors.md). -/
theorem test_V84_sbc_decimal_borrow :
    after (step (before 0x32 0x00 0x00 0xFF 0x08 0x0200 [(0x0200, 0xE9), (0x0201, 0x02)])) =
      some ⟨0x29, 0x00, 0x00, 0xFF, 0x09, 0x0202, some 2, []⟩ := by decide +kernel

/-- V97 (95_test_vectors.md). -/
theorem test_V97_cmp_below :
    after (step (before 0x00 0x00 0x00 0xFF 0x48 0x0200 [(0x0200, 0xC9), (0x0201, 0xFF)])) =
      some ⟨0x00, 0x00, 0x00, 0xFF, 0x48, 0x0202, some 2, []⟩ := by decide +kernel

/-- V101 (95_test_vectors.md). -/
theorem test_V101_cmp_absx_equal :
    after (step (before 0x40 0x01 0x00 0xFF 0x00 0x0200 [(0x0200, 0xDD), (0x0201, 0xFF), (0x0202, 0x02), (0x0300, 0x40)])) =
      some ⟨0x40, 0x01, 0x00, 0xFF, 0x03, 0x0203, some 5, []⟩ := by decide +kernel

/-- V105 (95_test_vectors.md). -/
theorem test_V105_cpx_abs :
    after (step (before 0x00 0xFF 0x00 0xFF 0x02 0x0200 [(0x0200, 0xEC), (0x0202, 0x03), (0x0300, 0x01)])) =
      some ⟨0x00, 0xFF, 0x00, 0xFF, 0x81, 0x0203, some 4, []⟩ := by decide +kernel

/-- V106 (95_test_vectors.md). -/
theorem test_V106_cpy_borrow :
    after (step (before 0x00 0x00 0x00 0xFF 0x01 0x0200 [(0x0200, 0xC0), (0x0201, 0x01)])) =
      some ⟨0x00, 0x00, 0x00, 0xFF, 0x80, 0x0202, some 2, []⟩ := by decide +kernel

/-- V111 (95_test_vectors.md). -/
theorem test_V111_and_absy :
    after (step (before 0xFF 0x00 0x10 0xFF 0x00 0x0200 [(0x0200, 0x39), (0x0201, 0xF0), (0x0202, 0x20), (0x2100, 0x81)])) =
      some ⟨0x81, 0x00, 0x10, 0xFF, 0x80, 0x0203, some 5, []⟩ := by decide +kernel

/-- V114 (95_test_vectors.md). -/
theorem test_V114_ora_indy :
    after (step (before 0x01 0x00 0x00 0xFF 0x00 0x0200 [(0x0011, 0x03), (0x0200, 0x11), (0x0201, 0x10), (0x0300, 0x02)])) =
      some ⟨0x03, 0x00, 0x00, 0xFF, 0x00, 0x0202, some 5, []⟩ := by decide +kernel

/-- V117 (95_test_vectors.md). -/
theorem test_V117_eor_zpx :
    after (step (before 0xFF 0x01 0x00 0xFF 0x00 0x0200 [(0x0011, 0x7F), (0x0200, 0x55), (0x0201, 0x10)])) =
      some ⟨0x80, 0x01, 0x00, 0xFF, 0x80, 0x0202, some 4, []⟩ := by decide +kernel

/-- V118 (95_test_vectors.md). -/
theorem test_V118_bit_flags_of_memory :
    after (step (before 0x01 0x00 0x00 0xFF 0x00 0x0200 [(0x0010, 0xC0), (0x0200, 0x24), (0x0201, 0x10)])) =
      some ⟨0x01, 0x00, 0x00, 0xFF, 0xC2, 0x0202, some 3, []⟩ := by decide +kernel

/-- V123 (95_test_vectors.md). -/
theorem test_V123_asl_acc_drops_carry :
    after (step (before 0x40 0x00 0x00 0xFF 0x01 0x0200 [(0x0200, 0x0A)])) =
      some ⟨0x80, 0x00, 0x00, 0xFF, 0x80, 0x0201, some 2, []⟩ := by decide +kernel

/-- V136 (95_test_vectors.md). -/
theorem test_V136_asl_abs_keeps_a :
    after (step (before 0x77 0x00 0x00 0xFF 0x00 0x0200 [(0x0200, 0x0E), (0x0202, 0x03), (0x0300, 0xC0)])) =
      some ⟨0x77, 0x00, 0x00, 0xFF, 0x81, 0x0203, some 6, [(0x0300, 0x80)]⟩ := by decide +kernel

/-- V124 (95_test_vectors.md). -/
theorem test_V124_lsr_acc_clears_n :
    after (step (before 0x03 0x00 0x00 0xFF 0x80 0x0200 [(0x0200, 0x4A)])) =
      some ⟨0x01, 0x00, 0x00, 0xFF, 0x01, 0x0201, some 2, []⟩ := by decide +kernel

/-- V132 (95_test_vectors.md). -/
theorem test_V132_lsr_abs :
    after (step (before 0x00 0x00 0x00 0xFF 0x00 0x0200 [(0x0200, 0x4E), (0x0202, 0x03), (0x0300, 0xFF)])) =
      some ⟨0x00, 0x00, 0x00, 0xFF, 0x01, 0x0203, some 6, [(0x0300, 0x7F)]⟩ := by decide +kernel

/-- V126 (95_test_vectors.md). -/
theorem test_V126_rol_acc :
    after (step (before 0x80 0x00 0x00 0xFF 0x01 0x0200 [(0x0200, 0x2A)])) =
      some ⟨0x01, 0x00, 0x00, 0xFF, 0x01, 0x0201, some 2, []⟩ := by decide +kernel

/-- V133 (95_test_vectors.md). -/
theorem test_V133_rol_absx :
    after (step (before 0x00 0x01 0x00 0xFF 0x01 0x0200 [(0x0200, 0x3E), (0x0201, 0xFF), (0x0202, 0x02), (0x0300, 0x40)])) =
      some ⟨0x00, 0x01, 0x00, 0xFF, 0x80, 0x0203, some 7, [(0x0300, 0x81)]⟩ := by decide +kernel

/-- V128 (95_test_vectors.md). -/
theorem test_V128_ror_acc :
    after (step (before 0x01 0x00 0x00 0xFF 0x01 0x0200 [(0x0200, 0x6A)])) =
      some ⟨0x80, 0x00, 0x00, 0xFF, 0x81, 0x0201, some 2, []⟩ := by decide +kernel

/-- V135 (95_test_vectors.md). -/
theorem test_V135_ror_zp :
    after (step (before 0x00 0x00 0x00 0xFF 0x01 0x0200 [(0x0020, 0x02), (0x0200, 0x66), (0x0201, 0x20)])) =
      some ⟨0x00, 0x00, 0x00, 0xFF, 0x80, 0x0202, some 5, [(0x0020, 0x81)]⟩ := by decide +kernel

/-- V137 (95_test_vectors.md). -/
theorem test_V137_inc_zp_keeps_c :
    after (step (before 0x00 0x00 0x00 0xFF 0x01 0x0200 [(0x0010, 0xFF), (0x0200, 0xE6), (0x0201, 0x10)])) =
      some ⟨0x00, 0x00, 0x00, 0xFF, 0x03, 0x0202, some 5, [(0x0010, 0x00)]⟩ := by decide +kernel

/-- V141 (95_test_vectors.md). -/
theorem test_V141_dec_zpx :
    after (step (before 0x00 0x01 0x00 0xFF 0x00 0x0200 [(0x0010, 0x01), (0x0200, 0xD6), (0x0201, 0x0F)])) =
      some ⟨0x00, 0x01, 0x00, 0xFF, 0x02, 0x0202, some 6, [(0x0010, 0x00)]⟩ := by decide +kernel

/-- V142 (95_test_vectors.md). -/
theorem test_V142_inx_wraps :
    after (step (before 0x00 0xFF 0x00 0xFF 0x00 0x0200 [(0x0200, 0xE8)])) =
      some ⟨0x00, 0x00, 0x00, 0xFF, 0x02, 0x0201, some 2, []⟩ := by decide +kernel

/-- V143 (95_test_vectors.md). -/
theorem test_V143_iny :
    after (step (before 0x00 0x00 0x7F 0xFF 0x00 0x0200 [(0x0200, 0xC8)])) =
      some ⟨0x00, 0x00, 0x80, 0xFF, 0x80, 0x0201, some 2, []⟩ := by decide +kernel

/-- V145 (95_test_vectors.md). -/
theorem test_V145_dex_wraps :
    after (step (before 0x00 0x00 0x00 0xFF 0x03 0x0200 [(0x0200, 0xCA)])) =
      some ⟨0x00, 0xFF, 0x00, 0xFF, 0x81, 0x0201, some 2, []⟩ := by decide +kernel

/-- V146 (95_test_vectors.md). -/
theorem test_V146_dey_wraps :
    after (step (before 0x00 0x00 0x00 0xFF 0x02 0x0200 [(0x0200, 0x88)])) =
      some ⟨0x00, 0x00, 0xFF, 0xFF, 0x80, 0x0201, some 2, []⟩ := by decide +kernel

/-- V148 (95_test_vectors.md). -/
theorem test_V148_bcc_taken :
    after (step (before 0x00 0x00 0x00 0xFF 0x00 0x0200 [(0x0200, 0x90), (0x0201, 0x02)])) =
      some ⟨0x00, 0x00, 0x00, 0xFF, 0x00, 0x0204, some 3, []⟩ := by decide +kernel

/-- V151 (95_test_vectors.md). -/
theorem test_V151_bcs_not_taken :
    after (step (before 0x00 0x00 0x00 0xFF 0xFE 0x0200 [(0x0200, 0xB0), (0x0201, 0x10)])) =
      some ⟨0x00, 0x00, 0x00, 0xFF, 0xFE, 0x0202, some 2, []⟩ := by decide +kernel

/-- V152 (95_test_vectors.md). -/
theorem test_V152_beq_crosses :
    after (step (before 0x00 0x00 0x00 0xFF 0x02 0x02FD [(0x02FD, 0xF0), (0x02FE, 0x05)])) =
      some ⟨0x00, 0x00, 0x00, 0xFF, 0x02, 0x0304, some 4, []⟩ := by decide +kernel

/-- V153 (95_test_vectors.md). -/
theorem test_V153_beq_backwards :
    after (step (before 0x00 0x00 0x00 0xFF 0x02 0x0280 [(0x0280, 0xF0), (0x0281, 0x80)])) =
      some ⟨0x00, 0x00, 0x00, 0xFF, 0x02, 0x0202, some 3, []⟩ := by decide +kernel

/-- V156 (95_test_vectors.md). -/
theorem test_V156_bmi_not_taken :
    after (step (before 0x00 0x00 0x00 0xFF 0x7F 0x0200 [(0x0200, 0x30), (0x0201, 0xFE)])) =
      some ⟨0x00, 0x00, 0x00, 0xFF, 0x7F, 0x0202, some 2, []⟩ := by decide +kernel

/-- V157 (95_test_vectors.md). -/
theorem test_V157_bne_backwards :
    after (step (before 0x00 0x00 0x00 0xFF 0x00 0x0208 [(0x0208, 0xD0), (0x0209, 0xFB)])) =
      some ⟨0x00, 0x00, 0x00, 0xFF, 0x00, 0x0205, some 3, []⟩ := by decide +kernel

/-- V159 (95_test_vectors.md). -/
theorem test_V159_bpl_crosses_back :
    after (step (before 0x00 0x00 0x00 0xFF 0x00 0x0300 [(0x0300, 0x10), (0x0301, 0xFC)])) =
      some ⟨0x00, 0x00, 0x00, 0xFF, 0x00, 0x02FE, some 4, []⟩ := by decide +kernel

/-- V162 (95_test_vectors.md). -/
theorem test_V162_bvc_not_taken :
    after (step (before 0x00 0x00 0x00 0xFF 0x40 0x0200 [(0x0200, 0x50)])) =
      some ⟨0x00, 0x00, 0x00, 0xFF, 0x40, 0x0202, some 2, []⟩ := by decide +kernel

/-- V163 (95_test_vectors.md). -/
theorem test_V163_bvs_wraps_pc :
    after (step (before 0x00 0x00 0x00 0xFF 0x40 0xFFFD [(0xFFFD, 0x70), (0xFFFE, 0x01)])) =
      some ⟨0x00, 0x00, 0x00, 0xFF, 0x40, 0x0000, some 4, []⟩ := by decide +kernel

/-- V165 (95_test_vectors.md). -/
theorem test_V165_jmp_abs :
    after (step (before 0x00 0x00 0x00 0xFF 0x00 0x0200 [(0x0200, 0x4C), (0x0202, 0x03)])) =
      some ⟨0x00, 0x00, 0x00, 0xFF, 0x00, 0x0300, some 3, []⟩ := by decide +kernel

/-- V168 (95_test_vectors.md). -/
theorem test_V168_jmp_ind_page_wrap :
    after (step (before 0x00 0x00 0x00 0xFF 0x00 0x0200 [(0x0200, 0x6C), (0x0201, 0xFF), (0x0202, 0x12), (0x1200, 0x40), (0x1300, 0x50)])) =
      some ⟨0x00, 0x00, 0x00, 0xFF, 0x00, 0x4000, some 5, []⟩ := by decide +kernel

/-- V170 (95_test_vectors.md). -/
theorem test_V170_jsr_stack_wraps :
    after (step (before 0x00 0x00 0x00 0x00 0x00 0x0200 [(0x0200, 0x20), (0x0201, 0x34), (0x0202, 0x12)])) =
      some ⟨0x00, 0x00, 0x00, 0xFE, 0x00, 0x1234, some 6, [(0x0100, 0x02), (0x01FF, 0x02)]⟩ := by decide +kernel

/-- V173 (95_test_vectors.md). -/
theorem test_V173_rts_carries :
    after (step (before 0x00 0x00 0x00 0xFD 0x00 0x0300 [(0x01FE, 0xFF), (0x01FF, 0x02), (0x0300, 0x60)])) =
      some ⟨0x00, 0x00, 0x00, 0xFF, 0x00, 0x0300, some 6, []⟩ := by decide +kernel

/-- V177 (95_test_vectors.md). -/
theorem test_V177_pha_wraps :
    after (step (before 0x42 0x00 0x00 0x00 0x00 0x0200 [(0x0200, 0x48)])) =
      some ⟨0x42, 0x00, 0x00, 0xFF, 0x00, 0x0201, some 3, [(0x0100, 0x42)]⟩ := by decide +kernel

/-- V179 (95_test_vectors.md). -/
theorem test_V179_pla_wraps :
    after (step (before 0x00 0x00 0x00 0xFF 0x00 0x0200 [(0x0100, 0x80), (0x0200, 0x68)])) =
      some ⟨0x80, 0x00, 0x00, 0x00, 0x80, 0x0201, some 4, []⟩ := by decide +kernel

/-- V181 (95_test_vectors.md). -/
theorem test_V181_php_raw :
    after (step (before 0x00 0x00 0x00 0xFF 0xCF 0x0200 [(0x0200, 0x08)])) =
      some ⟨0x00, 0x00, 0x00, 0xFE, 0xCF, 0x0201, some 3, [(0x01FF, 0xCF)]⟩ := by decide +kernel

/-- V182 (95_test_vectors.md). -/
theorem test_V182_plp_all_bits :
    after (step (before 0x00 0x00 0x00 0xFE 0x04 0x0200 [(0x01FF, 0xFF), (0x0200, 0x28)])) =
      some ⟨0x00, 0x00, 0x00, 0xFF, 0xFF, 0x0201, some 4, []⟩ := by decide +kernel

/-- V184 (95_test_vectors.md). -/
theorem test_V184_clc :
    after (step (before 0x00 0x00 0x00 0xFF 0xFF 0x0200 [(0x0200, 0x18)])) =
      some ⟨0x00, 0x00, 0x00, 0xFF, 0xFE, 0x0201, some 2, []⟩ := by decide +kernel

/-- V185 (95_test_vectors.md). -/
theorem test_V185_sec :
    after (step (before 0x00 0x00 0x00 0xFF 0x00 0x0200 [(0x0200, 0x38)])) =
      some ⟨0x00, 0x00, 0x00, 0xFF, 0x01, 0x0201, some 2, []⟩ := by decide +kernel

/-- V186 (95_test_vectors.md). -/
theorem test_V186_cli :
    after (step (before 0x00 0x00 0x00 0xFF 0xFF 0x0200 [(0x0200, 0x58)])) =
      some ⟨0x00, 0x00, 0x00, 0xFF, 0xFB, 0x0201, some 2, []⟩ := by decide +kernel

/-- V187 (95_test_vectors.md). -/
theorem test_V187_sei :
    after (step (before 0x00 0x00 0x00 0xFF 0x00 0x0200 [(0x0200, 0x78)])) =
      some ⟨0x00, 0x00, 0x00, 0xFF, 0x04, 0x0201, some 2, []⟩ := by decide +kernel

/-- V188 (95_test_vectors.md). -/
theorem test_V188_cld :
    after (step (before 0x00 0x00 0x00 0xFF 0xFF 0x0200 [(0x0200, 0xD8)])) =
      some ⟨0x00, 0x00, 0x00, 0xFF, 0xF7, 0x0201, some 2, []⟩ := by decide +kernel

/-- V189 (95_test_vectors.md). -/
theorem test_V189_sed :
    after (step (before 0x00 0x00 0x00 0xFF 0x00 0x0200 [(0x0200, 0xF8)])) =
      some ⟨0x00, 0x00, 0x00, 0xFF, 0x08, 0x0201, some 2, []⟩ := by decide +kernel

/-- V190 (95_test_vectors.md). -/
theorem test_V190_clv :
    after (step (before 0x00 0x00 0x00 0xFF 0xFF 0x0200 [(0x0200, 0xB8)])) =
      some ⟨0x00, 0x00, 0x00, 0xFF, 0xBF, 0x0201, some 2, []⟩ := by decide +kernel

/-- V192 (95_test_vectors.md). -/
theorem test_V192_nop :
    after (step (before 0x01 0x02 0x03 0xFF 0xA5 0x0200 [(0x0200, 0xEA)])) =
      some ⟨0x01, 0x02, 0x03, 0xFF, 0xA5, 0x0201, some 2, []⟩ := by decide +kernel

/-- V195 (95_test_vectors.md). -/
theorem test_V195_brk_pushes_old_b :
    after (step (before 0x00 0x00 0x00 0xFF 0x19 0x0200 [(0xFFFF, 0x90)])) =
      some ⟨0x00, 0x00, 0x00, 0xFC, 0x19, 0x9000, some 7, [(0x01FF, 0x02), (0x01FE, 0x02), (0x01FD, 0x19)]⟩ := by decide +kernel

/-- V201 (95_test_vectors.md). -/
theorem test_V201_rti_no_increment :
    after (step (before 0x00 0x00 0x00 0xFE 0x00 0x9000 [(0x0100, 0xFF), (0x0101, 0xFF), (0x01FF, 0x81), (0x9000, 0x40)])) =
      some ⟨0x00, 0x00, 0x00, 0x01, 0x81, 0xFFFF, some 6, []⟩ := by decide +kernel

/-- V203 (95_test_vectors.md). -/
theorem test_V203_invalid_wraps_pc :
    after (step (before 0x00 0x00 0x00 0xFF 0x00 0xFFFF [(0xFFFF, 0xFF)])) =
      some ⟨0x00, 0x00, 0x00, 0xFF, 0x00, 0x0000, some 0, []⟩ := by decide +kernel

/-! ### Traces, interrupts, routing, parameters -/

/-- The bytes at the vectors in T1 to T7. -/
def vectors : Memory := [(0xFFFA, 0x10), (0xFFFB, 0x03), (0xFFFD, 0x80), (0xFFFF, 0x90)]

/-- T2. -/
theorem test_T2_irq :
    (let s := { before 0x00 0x00 0x00 0xFF 0x21 0x1234 vectors with schedule := [.irq] }
     after (step s) = some ⟨0x00, 0x00, 0x00, 0xFC, 0x21, 0x9000, none, [(0x01FF, 0x12), (0x01FE, 0x34), (0x01FD, 0x21)]⟩ ∧
     (trace (step s)).drop 3 = [.read 0xFFFE 0x00, .read 0xFFFF 0x90]) := by decide +kernel

/-- T3. -/
theorem test_T3_irq_masked :
    (let s := { before 0x00 0x00 0x00 0xFF 0x04 0x1234 vectors with schedule := [.irq] }
     after (step s) = some ⟨0x00, 0x00, 0x00, 0xFF, 0x04, 0x1234, none, []⟩ ∧ trace (step s) = []) := by decide +kernel

/-- T5. -/
theorem test_T5_nmi_stack_wraps :
    (let s := { before 0x00 0x00 0x00 0x01 0xA5 0xABCD vectors with schedule := [.nmi] }
     after (step s) = some ⟨0x00, 0x00, 0x00, 0xFE, 0xA5, 0x0310, none, [(0x0101, 0xAB), (0x0100, 0xCD), (0x01FF, 0xA5)]⟩ ∧
     (trace (step s)).drop 3 = [.read 0xFFFA 0x10, .read 0xFFFB 0x03]) := by decide +kernel

/-- T11: the order of all accesses of a step. -/
theorem test_T11_lda_indy_trace :
    trace (step (before 0x00 0x00 0x20 0xFF 0x00 0x0200
      [(0x0010, 0xF0), (0x0011, 0x20), (0x0200, 0xB1), (0x0201, 0x10), (0x2110, 0x5A)])) =
    [.read 0x0200 0xB1, .read 0x0201 0x10, .read 0x0010 0xF0, .read 0x0011 0x20, .read 0x2110 0x5A] := by decide +kernel

/-- T14: one read, one write, no dummy access. -/
theorem test_T14_inc_trace :
    trace (step (before 0x00 0x01 0x00 0xFF 0x00 0x0200 [(0x0200, 0xFE), (0x0201, 0xFF), (0x0202, 0x02)])) =
    [.read 0x0200 0xFE, .read 0x0201 0xFF, .read 0x0202 0x02, .read 0x0300 0x00, .write 0x0300 0x01] := by decide +kernel

/-- T21: the report of an invalid opcode. -/
theorem test_T21_invalid_report :
    (match step (before 0x00 0x00 0x00 0xFF 0x00 0x0200 [(0x0200, 0x02)]) with
     | .next t => decide (t.report = some ⟨0x0200, 0x02⟩)
     | .refused _ => false) = true := by decide +kernel

/-- T22: an instruction that straddles the top of the address space. -/
theorem test_T22_fetch_wraps :
    trace (step (before 0x00 0x00 0x00 0xFF 0x00 0xFFFE [(0x0000, 0x12), (0x1234, 0x9A), (0xFFFE, 0xAD), (0xFFFF, 0x34)])) =
    [.read 0xFFFE 0xAD, .read 0xFFFF 0x34, .read 0x0000 0x12, .read 0x1234 0x9A] := by decide +kernel

/-- T17 with `JMP_IND_PAGE_WRAP` false: the last access is at 0x1300 and PC is 0x5000. -/
theorem test_T17_no_page_wrap :
    (let s := before 0x00 0x00 0x00 0xFF 0x00 0x0200
       [(0x0200, 0x6C), (0x0201, 0xFF), (0x0202, 0x12), (0x1200, 0x40), (0x1300, 0x50)]
     (after (step { s with config := { s.config with jmpIndPageWrap := false } })).map (·.pc) = some 0x5000) := by
  decide +kernel

/-- T12 with `ZP_PTR_WRAP` false: the pointer's high byte is read at 0x0100 (R119). -/
theorem test_T12_no_zero_page_wrap :
    (let s := before 0x00 0x00 0x01 0xFF 0x00 0x0200
       [(0x0000, 0x30), (0x0100, 0x40), (0x0200, 0xB1), (0x0201, 0xFF), (0x3001, 0x5C), (0x4001, 0x5D)]
     (after (step { s with config := { s.config with zpPtrWrap := false } })).map (·.a) = some 0x5D) := by decide +kernel

/-- V193, BRK with I set: no push and no jump; and where `BRK_GATED_BY_I` is false the sequence runs all the same (R242). -/
theorem test_V193_brk_masked_or_not_gated :
    (let s := before 0x00 0x00 0x00 0xFF 0x04 0x0200 vectors
     after (step s) = some ⟨0x00, 0x00, 0x00, 0xFF, 0x14, 0x0202, some 7, []⟩ ∧
     after (step { s with config := { s.config with brkGatedByI := false } }) =
       some ⟨0x00, 0x00, 0x00, 0xFC, 0x14, 0x9000, some 7, [(0x01FF, 0x02), (0x01FE, 0x02), (0x01FD, 0x04)]⟩) := by
  decide +kernel

/-- `IRQ` where `IRQ_ENTRY_SETS_I` holds: I is set after the push of P (R254). -/
theorem test_irq_entry_sets_i :
    (let s := { before 0x00 0x00 0x00 0xFF 0x21 0x1234 vectors with schedule := [.irq] }
     after (step { s with config := { s.config with irqEntrySetsI := true } }) =
       some ⟨0x00, 0x00, 0x00, 0xFC, 0x25, 0x9000, none, [(0x01FF, 0x12), (0x01FE, 0x34), (0x01FD, 0x21)]⟩) := by
  decide +kernel

/-- An override of the decimal table is used on operands that are not BCD, and only there (R159). -/
theorem test_decimal_override :
    addDec { Config.standard with decAdc := [⟨0x0F, 0x01, false, 0x77, true⟩] } 0x0F 0x01 false = ⟨0x77, true⟩ ∧
    addDec { Config.standard with decAdc := [⟨0x09, 0x01, false, 0x77, true⟩] } 0x09 0x01 false = ⟨0x10, false⟩ ∧
    addDec .standard 0x0F 0x01 false = ⟨0x16, false⟩ ∧ subDec .standard 0x00 0x0F true = ⟨0x9B, false⟩ := by decide +kernel

/-- S8: a ROM at 0x8000 that holds 0xAA there, a RAM under all of it. -/
def rom : Block := { start := 0x8000, stop := 0xFFFF, readOnly := true, fill := 0x00, data := [(0x0000, 0xAA)] }
def bigRam : Block := { flatRam with data := [(0x0010, 0xCC), (0x8000, 0xBB)] }

/-- S8, the rows of the table. -/
theorem test_S8_routing :
    busReadValue [.block rom, .block bigRam] 0x8000 = 0xAA ∧ busReadValue [.block bigRam, .block rom] 0x8000 = 0xBB ∧
    busReadValue [.block rom, .block bigRam] 0x0010 = 0xCC ∧
    busReadValue (busAfterWrite [.block rom, .block bigRam] 0x8000 0x11) 0x8000 = 0xAA ∧
    busReadValue (busAfterWrite [.block bigRam, .block rom] 0x8000 0x11) 0x8000 = 0x11 ∧
    busAfterWrite [.block rom] 0x8000 0x11 = [.block rom] ∧ busReadValue [.block rom] 0x0010 = 0x00 ∧
    busReadValue [] 0xFFFC = 0x00 := by decide +kernel

/-- Writing the fill byte removes the entry, so equal contents are equal data. -/
theorem test_memory_canonical :
    Memory.write 0x00 (Memory.write 0x00 [(0x0010, 0xCC)] 5 0x01) 5 0x00 = [(0x0010, 0xCC)] ∧
    Memory.write 0x00 [(0x0010, 0xCC)] 5 0x01 = [(5, 0x01), (0x0010, 0xCC)] := by decide +kernel

/-- `Observe` at reset (R270): the registers and the byte at PC. -/
theorem test_observe : observe State.reset = ⟨0x00, 0x00, 0x00, 0xFF, 0x04, 0x0000, some 0x00⟩ := by decide +kernel

/-- The Break flag ends a run by the predicate of R246: not at reset, but after a BRK. -/
theorem test_run_ended :
    State.reset.runEnded = false ∧
    (match step State.reset with | .next t => t.runEnded | .refused _ => false) = true := by decide +kernel

/-- An instruction placed where nothing answers, and over a ROM, is the next one run (log 5). -/
theorem test_placed_instruction :
    (after (step (({ State.reset with devices := [] } : State).withFetchWord 16 0x7FA9))).map (·.a) = some 0x7F ∧
    (after (step (({ State.reset with pc := 0x8000, devices := [.block rom] } : State).withFetchWord 16 0x7FA9))).map (·.a) =
      some 0x7F := by decide +kernel

/-! ### A state that meets the hypotheses of each statement -/

/-- NOP at 0x0200, LDA $1234 at 0x0300, LDA #$10 at 0x0400. -/
def code : Memory := [(0x0200, 0xEA), (0x0300, 0xAD), (0x0301, 0x34), (0x0302, 0x12), (0x0400, 0xA9), (0x0401, 0x10)]
def at0 (pc : Addr) : State := before 0x00 0x00 0x00 0xFF 0x00 pc code

theorem test_witness_DecodeOfEncodeIsIdentity :
    (Instr.invalid 0x02).wf = true ∧ (Instr.ldaAbs 0xFFFF).wf = true ∧ (Instr.bne 0x80).wf = true := by decide

theorem test_witness_EncodeOfDecodeIsIdentity :
    decode [0xAD, 0x34, 0x12, 0xEA] = .ok (.ldaAbs 0x1234, [0xEA]) := rfl

theorem test_witness_OpcodeMapIsTotal : (0x02 : Byte) ∈ invalidOpcodes ∧ (0x00 : Byte) ∉ invalidOpcodes := by decide

/-- One, two and three bytes; an empty schedule and one that starts with `Step`. -/
theorem test_witness_StepRunsTheDecodedInstruction :
    (at0 0x0200).mode = .running ∧ (at0 0x0200).schedule.head? = none ∧
    ({ at0 0x0200 with schedule := [.step, .irq] } : State).schedule.head? = some .step ∧
    decode [(at0 0x0200).byteAt 0x0200, (at0 0x0200).byteAt 0x0201, (at0 0x0200).byteAt 0x0202] = .ok (.nop, [0x00, 0x00]) ∧
    decode [(at0 0x0400).byteAt 0x0400, (at0 0x0400).byteAt 0x0401, (at0 0x0400).byteAt 0x0402] = .ok (.ldaImm 0x10, [0x00]) ∧
    decode [(at0 0x0300).byteAt 0x0300, (at0 0x0300).byteAt 0x0301, (at0 0x0300).byteAt 0x0302] = .ok (.ldaAbs 0x1234, []) :=
  ⟨rfl, rfl, rfl, rfl, rfl, rfl⟩

theorem test_witness_StepFetchesFromBlocks :
    (at0 0x0300).mode = .running ∧ (at0 0x0300).schedule = [] ∧ (at0 0x0300).peek 0x0300 = some 0xAD ∧
    (at0 0x0300).peek 0x0301 = some 0x34 ∧ (at0 0x0300).peek 0x0302 = some 0x12 ∧
    decode [0xAD, 0x34, 0x12] = .ok (.ldaAbs 0x1234, []) := ⟨rfl, rfl, rfl, rfl, rfl, rfl⟩

theorem test_witness_StepNeverStopsWhenRunning : State.reset.mode = .running ∧ State.reset.schedule.head? = none := ⟨rfl, rfl⟩

theorem test_witness_PlacedInstructionIsTheNextOneRun :
    decodeTableWord 8 0xEA = some .nop ∧ decodeTableWord 16 0x10A9 = some (.ldaImm 0x10) ∧
    decodeTableWord 24 0x1234AD = some (.ldaAbs 0x1234) := by decide +kernel

/-- Each of the events that are refused, and the one that runs. -/
theorem test_witness_BeforeResetStepIrqNmiAreRefused :
    ([[], [.step], [.irq], [.nmi, .reset], [.reset]] : List (List Event)).map
      (fun l => decide (after (step { State.reset with mode := .awaitingReset, schedule := l }) = none)) =
    [true, true, true, true, false] := by decide +kernel

theorem test_witness_OnlyResetChangesMode :
    (match step { State.reset with mode := .awaitingReset, schedule := [.reset] } with
     | .next t => decide (t.mode ≠ .awaitingReset)
     | .refused _ => false) = true := by decide +kernel

theorem test_witness_CycleCountsAreInRange :
    (∃ t, exec .nop State.reset = .next t ∧ t.cycles = some 2) ∧ (∃ t, exec .brk State.reset = .next t ∧ t.cycles = some 7) ∧
    (∃ t, exec (.invalid 0x02) State.reset = .next t ∧ t.cycles = some 0) := ⟨⟨_, rfl, rfl⟩, ⟨_, rfl, rfl⟩, ⟨_, rfl, rfl⟩⟩

theorem test_witness_ResetEventValues :
    ({ State.reset with mode := .awaitingReset, schedule := [.reset, .step] } : State).schedule = .reset :: [.step] := rfl

theorem test_witness_ResetStateIsAResetEvent :
    (let s := { before 0x55 0x01 0x02 0x10 0xFF 0x1234 [] with mode := .awaitingReset, schedule := [.reset] }
     s.devices = [.block flatRam] ∧ s.config = .standard ∧ s.schedule = [.reset]) := ⟨rfl, rfl, rfl⟩

theorem test_witness_StepKeepsTheInvariant : State.reset.Inv ∧ ∃ t, step State.reset = .next t := ⟨test_reset_inv, _, rfl⟩

theorem test_witness_StepKeepsThePlatform :
    ∃ t, step { State.reset with schedule := [.device 0 [0x41], .step] } = .next t := ⟨_, rfl⟩

/-- For BRK, V is never written, and I only where `IRQ_ENTRY_SETS_I` holds. -/
theorem test_witness_FlagsWrittenAreThoseOfTheTable :
    (∃ t, exec .brk State.reset = .next t) ∧ Machine.Flag.i ∉ flagsWritten (Instr.mnemonic .brk) ∧
    State.reset.config.irqEntrySetsI = false ∧ (∃ t, exec (.adcImm 0x01) State.reset = .next t) ∧
    Machine.Flag.d ∉ flagsWritten (Instr.mnemonic (.adcImm 0x01)) := ⟨⟨_, rfl⟩, by decide, rfl, ⟨_, rfl⟩, by decide⟩

theorem test_witness_RegistersWrittenAreThoseListed :
    (∃ t, exec .pla State.reset = .next t) ∧ Reg.x ∉ registersWritten .pla ∧ (∃ t, exec .aslAcc State.reset = .next t) ∧
    Reg.sp ∉ registersWritten .aslAcc := ⟨⟨_, rfl⟩, by decide, ⟨_, rfl⟩, by decide⟩

theorem test_witness_PlainInstructionsAdvancePc :
    (∃ t, exec (.staAbs 0x0300) State.reset = .next t) ∧ transfersControl (.staAbs 0x0300) = false := ⟨⟨_, rfl⟩, by decide⟩

/-- A form that stores nothing, and one that stores. -/
theorem test_witness_NonStoringInstructionsKeepMemory :
    (∃ t, exec (.cmpAbs 0x0300) State.reset = .next t) ∧ mayStore (.cmpAbs 0x0300) = false ∧
    (∃ t, exec (.incAbs 0x0300) State.reset = .next t) ∧ mayStore (.incAbs 0x0300) = true := ⟨⟨_, rfl⟩, by decide, ⟨_, rfl⟩, by decide⟩

/-- The second of two devices is the first that claims; and a list where none claims. -/
theorem test_witness_BusReadReachesTheFirstClaimant :
    (let s := { State.reset with devices := [.block rom, .block bigRam] }
     s.devices = [.block rom] ++ .block bigRam :: [] ∧ (∀ e ∈ [Device.block rom], e.claims 0x7FFF true = false) ∧
     (Device.block bigRam).claims 0x7FFF true = true) ∧
    (∀ d ∈ [Device.block rom], d.claims 0x7FFF true = false) := ⟨⟨rfl, by decide, by decide⟩, by decide⟩

theorem test_witness_BusWriteReachesTheFirstClaimant :
    (let s := { State.reset with devices := [.block rom, .block bigRam] }
     s.devices = [.block rom] ++ .block bigRam :: [] ∧ (∀ e ∈ [Device.block rom], e.claims 0x8000 false = false) ∧
     (Device.block bigRam).claims 0x8000 false = true) ∧
    (∀ d ∈ [Device.block rom], d.claims 0xFFFF false = false) := ⟨⟨rfl, by decide, by decide⟩, by decide⟩

/-- Both ends of a range, and a read-only block. -/
theorem test_witness_BlockDeviceReadsBackWrites :
    (Device.block rom).claims 0x8000 true = true ∧ (Device.block rom).claims 0x7FFF true = false ∧ rom.readOnly = true ∧
    flatRam.readOnly = false ∧ flatRam.covers 0x0000 = true ∧ flatRam.covers 0xFFFF = true := by decide

theorem ramAt_reset (a : Addr) : State.reset.ramAt a :=
  ⟨[], flatRam, [], rfl, by simp [Block.covers, flatRam]; omega, rfl, by simp⟩

theorem test_witness_RamReturnsTheByteWritten : State.reset.ramAt 0x0000 ∧ State.reset.ramAt 0xFFFF :=
  ⟨ramAt_reset _, ramAt_reset _⟩

theorem test_witness_WriteBehindRomIsHidden :
    ({ State.reset with devices := [.block rom, .block bigRam] } : State).devices = [.block rom, .block bigRam] ∧
    rom.readOnly = true ∧ bigRam.readOnly = false ∧ rom.covers 0x8000 = true ∧ bigRam.covers 0x8000 = true := by decide

/-- No list of operands is empty: the statements about them speak of every format of R98. -/
theorem test_witness_rows :
    (ldaRows 0 0 0).length = 8 ∧ (ldxRows 0 0 0).length = 5 ∧ (ldyRows 0 0 0).length = 5 ∧ (adcRows 0 0 0).length = 8 ∧
    (sbcRows 0 0 0).length = 8 ∧ (cmpRows 0 0 0).length = 8 ∧ (cpxRows 0 0 0).length = 3 ∧ (cpyRows 0 0 0).length = 3 ∧
    (andRows 0 0 0).length = 8 ∧ (oraRows 0 0 0).length = 8 ∧ (eorRows 0 0 0).length = 8 ∧ (bitRows 0 0 0).length = 2 ∧
    (staRows 0 0).length = 7 ∧ (stxRows 0 0).length = 3 ∧ (styRows 0 0).length = 3 ∧ (aslRows 0 0).length = 4 ∧
    (lsrRows 0 0).length = 4 ∧ (rolRows 0 0).length = 4 ∧ (rorRows 0 0).length = 4 ∧ (incRows 0 0).length = 4 ∧
    (decRows 0 0).length = 4 := by decide

/-- The stored byte is in RAM. -/
theorem test_witness_StoresWriteTheirByte :
    (⟨.staZpx 0xFF, .zpx 0xFF, 4, 0x95⟩ : MemRow) ∈ staRows 0xFF 0x0000 ∧
    State.reset.ramAt (resolve (.zpx 0xFF) State.reset).ea := ⟨by simp [staRows], ramAt_reset _⟩

theorem test_witness_ShiftsOfMemory :
    (⟨.rolAbsx 0xFFFF, .absx 0xFFFF, 7, 0x3E⟩ : MemRow) ∈ rolRows 0x00 0xFFFF ∧
    State.reset.ramAt (resolve (.absx 0xFFFF) State.reset).ea := ⟨by simp [rolRows], ramAt_reset _⟩

theorem test_witness_IncrementsOfMemory :
    (⟨.decZp 0x00, .zp 0x00, 5, 0xC6⟩ : MemRow) ∈ decRows 0x00 0x0000 ∧
    State.reset.ramAt (resolve (.zp 0x00) State.reset).ea := ⟨by simp [decRows], ramAt_reset _⟩

theorem test_witness_AdcAddsInBinary :
    State.reset.flag .d = false ∧ (⟨.adcImm 0x7F, .imm 0x7F, 2, 0x69⟩ : ReadRow) ∈ adcRows 0x7F 0x00 0x0000 :=
  ⟨by decide, by simp [adcRows]⟩

theorem test_witness_SbcSubtractsInBinary :
    State.reset.flag .d = false ∧ (⟨.sbcIndy 0x80, .mem (.indy 0x80), 5, 0xF1⟩ : ReadRow) ∈ sbcRows 0x00 0x80 0x0000 :=
  ⟨by decide, by simp [sbcRows]⟩

/-- D set, 99 in A, and an operand that is BCD. -/
theorem test_witness_AdcAddsInDecimal :
    (let s := before 0x99 0x00 0x00 0xFF 0x09 0x0200 []
     s.flag .d = true ∧ isBcd s.a = true ∧ (⟨.adcImm 0x99, .imm 0x99, 2, 0x69⟩ : ReadRow) ∈ adcRows 0x99 0x00 0x0000 ∧
     isBcd ((Source.imm 0x99).fetch s).value = true) := ⟨by decide, by decide, by simp [adcRows], by decide⟩

theorem test_witness_SbcSubtractsInDecimal :
    (let s := before 0x00 0x00 0x00 0xFF 0x08 0x0200 []
     s.flag .d = true ∧ isBcd s.a = true ∧ (⟨.sbcImm 0x99, .imm 0x99, 2, 0xE9⟩ : ReadRow) ∈ sbcRows 0x99 0x00 0x0000 ∧
     isBcd ((Source.imm 0x99).fetch s).value = true) := ⟨by decide, by decide, by simp [sbcRows], by decide⟩

/-- D set and operands that are not BCD, with a parameter that has no entry. -/
theorem test_witness_DecimalRunsOnEveryOperand :
    (let s := before 0xFF 0x00 0x00 0xFF 0x08 0x0200 []
     s.flag .d = true ∧ isBcd s.a = false ∧ s.config.decAdc = [] ∧ s.config.decSbc = [] ∧
     (⟨.adcImm 0x0F, .imm 0x0F, 2, 0x69⟩ : ReadRow) ∈ adcRows 0x0F 0x00 0x0000) :=
  ⟨by decide, by decide, rfl, rfl, by simp [adcRows]⟩

/-- Each branch has a state in which it is taken and one in which it is not. -/
theorem test_witness_BranchesTestOneFlag :
    (let s := before 0x00 0x00 0x00 0xFF 0xC3 0xFFFE []
     let t := before 0x00 0x00 0x00 0xFF 0x00 0xFFFE []
     [s.flag .c, s.flag .z, s.flag .n, s.flag .v] = [true, true, true, true] ∧
     [t.flag .c, t.flag .z, t.flag .n, t.flag .v] = [false, false, false, false]) := by decide

/-- Two stack bytes in RAM; the state the JSR leaves is one the RTS may run in. -/
theorem test_witness_JsrThenRtsReturns :
    State.reset.ramAt (stackAddr State.reset.sp) ∧ State.reset.ramAt (stackAddr (State.reset.sp - 1)) ∧
    ∃ t u : State, exec (.jsr 0x0300) State.reset = .next t ∧ u.sp = t.sp ∧
      u.peek (stackAddr State.reset.sp) = t.peek (stackAddr State.reset.sp) ∧
      u.peek (stackAddr (State.reset.sp - 1)) = t.peek (stackAddr (State.reset.sp - 1)) :=
  ⟨ramAt_reset _, ramAt_reset _, _, _, rfl, rfl, rfl, rfl⟩

theorem test_witness_PushesStoreThenDecrement : State.reset.ramAt (stackAddr State.reset.sp) := ramAt_reset _

theorem test_witness_PushThenPullRestores : State.reset.ramAt (stackAddr State.reset.sp) := ramAt_reset _

/-- Gated and masked; gated and not masked; not gated. -/
theorem test_witness_BrkRunsTheGatedSequence :
    (State.reset.config.brkGatedByI = true ∧ State.reset.flag .i = true) ∧
    (before 0x00 0x00 0x00 0xFF 0x00 0x0200 []).flag .i = false ∧
    ({ Config.standard with brkGatedByI := false } : Config).brkGatedByI = false := by decide

theorem test_witness_InvalidOpcodeSkipsOneByte : (0x02 : Byte) ∈ invalidOpcodes ∧ (0xFF : Byte) ∈ invalidOpcodes := by decide

/-- I set, and I clear. -/
theorem test_witness_IrqIsGatedByI :
    (let s := { State.reset with schedule := [.irq, .step] }
     s.mode = .running ∧ s.schedule = .irq :: [.step] ∧ s.flag .i = true) ∧
    (let s := { before 0x00 0x00 0x00 0xFF 0x00 0x0200 [] with schedule := [.irq] }
     s.mode = .running ∧ s.schedule = .irq :: [] ∧ s.flag .i = false) := by decide

theorem test_witness_NmiIsUnconditional :
    (let s := { State.reset with schedule := [.nmi] }
     s.mode = .running ∧ s.schedule = .nmi :: [] ∧ s.flag .i = true) := by decide

/-- Three stack bytes in RAM; the state the entry leaves is one the RTI may run in. -/
theorem test_witness_RtiUndoesInterruptEntry :
    State.reset.ramAt (stackAddr State.reset.sp) ∧ State.reset.ramAt (stackAddr (State.reset.sp - 1)) ∧
    State.reset.ramAt (stackAddr (State.reset.sp - 2)) ∧
    ∃ u : State, u.sp = (State.reset.intSeq 0xFFFE).sp ∧
      ∀ a ∈ [stackAddr State.reset.sp, stackAddr (State.reset.sp - 1), stackAddr (State.reset.sp - 2)],
        u.peek a = (State.reset.intSeq 0xFFFE).peek a :=
  ⟨ramAt_reset _, ramAt_reset _, ramAt_reset _, State.reset.intSeq 0xFFFE, rfl, fun _ _ => rfl⟩

end Sys2Proof.Tests
end

section
/-! What an instruction can do, said once. `RunsAs i s t` lists the shared operations an instruction ends in, each with the mnemonics
that end in it, the length it advances PC by and the range of its base cycles; `exec_runsAs` ties it to `exec`. Whatever holds of every
instruction follows by cases on the shared operation, not on the 152 constructors. -/

namespace Sys2Proof.Laws
open Sys2Proof.Machine

/-- Running `i` at `s` ends in `t` by one of the shared operations of the families. -/
inductive RunsAs (i : Instr) (s : State) : State → Prop
  | lda (src : Source) (base : Nat) (hm : i.mnemonic = .LDA) (hl : i.length = src.length) (hb : 2 ≤ base ∧ base ≤ 6) :
      RunsAs i s (lda src base s)
  | ldx (src : Source) (base : Nat) (hm : i.mnemonic = .LDX) (hl : i.length = src.length) (hb : 2 ≤ base ∧ base ≤ 6) :
      RunsAs i s (ldx src base s)
  | ldy (src : Source) (base : Nat) (hm : i.mnemonic = .LDY) (hl : i.length = src.length) (hb : 2 ≤ base ∧ base ≤ 6) :
      RunsAs i s (ldy src base s)
  | adc (src : Source) (base : Nat) (hm : i.mnemonic = .ADC) (hl : i.length = src.length) (hb : 2 ≤ base ∧ base ≤ 6) :
      RunsAs i s (adc src base s)
  | sbc (src : Source) (base : Nat) (hm : i.mnemonic = .SBC) (hl : i.length = src.length) (hb : 2 ≤ base ∧ base ≤ 6) :
      RunsAs i s (sbc src base s)
  | compare (r : Byte) (src : Source) (base : Nat) (hm : i.mnemonic ∈ [.CMP, .CPX, .CPY]) (hl : i.length = src.length)
      (hb : 2 ≤ base ∧ base ≤ 6) : RunsAs i s (compareWith r src base s)
  | logic (f : Byte → Byte → Byte) (src : Source) (base : Nat) (hm : i.mnemonic ∈ [.AND, .ORA, .EOR])
      (hl : i.length = src.length) (hb : 2 ≤ base ∧ base ≤ 6) : RunsAs i s (logic f src base s)
  | bit (src : Source) (base : Nat) (hm : i.mnemonic = .BIT) (hl : i.length = src.length) (hb : 2 ≤ base ∧ base ≤ 6) :
      RunsAs i s (bitTest src base s)
  | store (v : Byte) (m : AddrMode) (base : Nat) (hm : i.mnemonic ∈ [.STA, .STX, .STY]) (hl : i.length = m.length)
      (hb : 2 ≤ base ∧ base ≤ 7) : RunsAs i s (store v m base s)
  | modifyMem (f : Byte → Byte) (m : AddrMode) (base : Nat) (hm : i.mnemonic ∈ [.INC, .DEC]) (hl : i.length = m.length)
      (hb : 2 ≤ base ∧ base ≤ 7) : RunsAs i s (modifyMem f m base s)
  | shiftAcc (f : Byte → Bool → ByteCarry) (hm : i.mnemonic ∈ [.ASL, .LSR, .ROL, .ROR]) (hf : i.format = .acc) :
      RunsAs i s (shift f .acc 2 s)
  | shiftMem (f : Byte → Bool → ByteCarry) (m : AddrMode) (base : Nat) (hm : i.mnemonic ∈ [.ASL, .LSR, .ROL, .ROR])
      (hf : i.format ≠ .acc) (hl : i.length = m.length) (hb : 2 ≤ base ∧ base ≤ 7) : RunsAs i s (shift f (.mem m) base s)
  | loadA (v : Byte) (hm : i.mnemonic ∈ [.TXA, .TYA]) (hl : i.length = 1) : RunsAs i s ((s.loadA v).finish 1 2)
  | loadX (v : Byte) (hm : i.mnemonic ∈ [.TAX, .TSX, .INX, .DEX]) (hl : i.length = 1) :
      RunsAs i s ((s.loadX v).finish 1 2)
  | loadY (v : Byte) (hm : i.mnemonic ∈ [.TAY, .INY, .DEY]) (hl : i.length = 1) : RunsAs i s ((s.loadY v).finish 1 2)
  | txs (hm : i.mnemonic = .TXS) (hl : i.length = 1) : RunsAs i s ((s.setSp s.x).finish 1 2)
  | branch (cond : Bool) (d : Byte) (hm : i.mnemonic ∈ [.BCC, .BCS, .BEQ, .BMI, .BNE, .BPL, .BVC, .BVS]) :
      RunsAs i s (branch cond d s)
  | jump (m : AddrMode) (base : Nat) (hm : i.mnemonic = .JMP) (hb : 2 ≤ base ∧ base ≤ 7) : RunsAs i s (jump m base s)
  | jsr (w : Addr) (hm : i.mnemonic = .JSR) : RunsAs i s (callSubroutine w s)
  | rts (hm : i.mnemonic = .RTS) : RunsAs i s (returnFromSubroutine s)
  | push (v : Byte) (hm : i.mnemonic ∈ [.PHA, .PHP]) (hl : i.length = 1) : RunsAs i s ((s.push v).finish 1 3)
  | pla (hm : i.mnemonic = .PLA) (hl : i.length = 1) : RunsAs i s (pullA s)
  | plp (hm : i.mnemonic = .PLP) (hl : i.length = 1) : RunsAs i s (pullP s)
  | flag (f : Flag) (v : Bool)
      (hm : (i.mnemonic, f) ∈ [(.CLC, .c), (.SEC, .c), (.CLI, .i), (.SEI, .i), (.CLD, .d), (.SED, .d), (.CLV, .v)])
      (hl : i.length = 1) : RunsAs i s (flagOp f v s)
  | nop (hm : i.mnemonic = .NOP) (hl : i.length = 1) : RunsAs i s (s.finish 1 2)
  | brk (hm : i.mnemonic = .BRK) : RunsAs i s (breakInstr s)
  | rti (hm : i.mnemonic = .RTI) : RunsAs i s (s.returnFromInterrupt.setCycles 6)
  | invalid (op : Byte) (hm : i.mnemonic = .INVALID) (hl : i.length = 1) :
      RunsAs i s (((s.emitReport s.pc op).setPc (s.pc + 1)).setCycles 0)

/-- Every instruction ends in a next state, by one of the shared operations. -/
theorem exec_runsAs (i : Instr) (s : State) : ∃ t, exec i s = .next t ∧ RunsAs i s t := by
  cases i
  case ldaImm | ldaZp | ldaZpx | ldaAbs | ldaAbsx | ldaAbsy | ldaIndx | ldaIndy =>
    exact ⟨_, rfl, .lda _ _ rfl rfl (by decide)⟩
  case ldxImm | ldxZp | ldxZpy | ldxAbs | ldxAbsy => exact ⟨_, rfl, .ldx _ _ rfl rfl (by decide)⟩
  case ldyImm | ldyZp | ldyZpx | ldyAbs | ldyAbsx => exact ⟨_, rfl, .ldy _ _ rfl rfl (by decide)⟩
  case staZp | staZpx | staAbs | staAbsx | staAbsy | staIndx | staIndy | stxZp | stxZpy | stxAbs | styZp | styZpx | styAbs =>
    exact ⟨_, rfl, .store _ _ _ (by simp [Instr.mnemonic]) rfl (by decide)⟩
  case adcImm | adcZp | adcZpx | adcAbs | adcAbsx | adcAbsy | adcIndx | adcIndy =>
    exact ⟨_, rfl, .adc _ _ rfl rfl (by decide)⟩
  case sbcImm | sbcZp | sbcZpx | sbcAbs | sbcAbsx | sbcAbsy | sbcIndx | sbcIndy =>
    exact ⟨_, rfl, .sbc _ _ rfl rfl (by decide)⟩
  case cmpImm | cmpZp | cmpZpx | cmpAbs | cmpAbsx | cmpAbsy | cmpIndx | cmpIndy | cpxImm | cpxZp | cpxAbs | cpyImm | cpyZp |
      cpyAbs =>
    exact ⟨_, rfl, .compare _ _ _ (by simp [Instr.mnemonic]) rfl (by decide)⟩
  case andImm | andZp | andZpx | andAbs | andAbsx | andAbsy | andIndx | andIndy | oraImm | oraZp | oraZpx | oraAbs | oraAbsx |
      oraAbsy | oraIndx | oraIndy | eorImm | eorZp | eorZpx | eorAbs | eorAbsx | eorAbsy | eorIndx | eorIndy =>
    exact ⟨_, rfl, .logic _ _ _ (by simp [Instr.mnemonic]) rfl (by decide)⟩
  case bitZp | bitAbs => exact ⟨_, rfl, .bit _ _ rfl rfl (by decide)⟩
  case aslAcc | lsrAcc | rolAcc | rorAcc => exact ⟨_, rfl, .shiftAcc _ (by simp [Instr.mnemonic]) rfl⟩
  case aslZp | aslZpx | aslAbs | aslAbsx | lsrZp | lsrZpx | lsrAbs | lsrAbsx | rolZp | rolZpx | rolAbs | rolAbsx | rorZp |
      rorZpx | rorAbs | rorAbsx =>
    exact ⟨_, rfl, .shiftMem _ _ _ (by simp [Instr.mnemonic]) (by simp [Instr.format]) rfl (by decide)⟩
  case incZp | incZpx | incAbs | incAbsx | decZp | decZpx | decAbs | decAbsx =>
    exact ⟨_, rfl, .modifyMem _ _ _ (by simp [Instr.mnemonic]) rfl (by decide)⟩
  case txa | tya => exact ⟨_, rfl, .loadA _ (by simp [Instr.mnemonic]) rfl⟩
  case tax | tsx | inx | dex => exact ⟨_, rfl, .loadX _ (by simp [Instr.mnemonic]) rfl⟩
  case tay | iny | dey => exact ⟨_, rfl, .loadY _ (by simp [Instr.mnemonic]) rfl⟩
  case txs => exact ⟨_, rfl, .txs rfl rfl⟩
  case bcc | bcs | beq | bmi | bne | bpl | bvc | bvs => exact ⟨_, rfl, .branch _ _ (by simp [Instr.mnemonic])⟩
  case jmpAbs | jmpInd => exact ⟨_, rfl, .jump _ _ rfl (by decide)⟩
  case jsr => exact ⟨_, rfl, .jsr _ rfl⟩
  case rts => exact ⟨_, rfl, .rts rfl⟩
  case pha | php => exact ⟨_, rfl, .push _ (by simp [Instr.mnemonic]) rfl⟩
  case pla => exact ⟨_, rfl, .pla rfl rfl⟩
  case plp => exact ⟨_, rfl, .plp rfl rfl⟩
  case clc | sec | cli | sei | cld | sed | clv => exact ⟨_, rfl, .flag _ _ (by simp [Instr.mnemonic]) rfl⟩
  case nop => exact ⟨_, rfl, .nop rfl rfl⟩
  case brk => exact ⟨_, rfl, .brk rfl⟩
  case rti => exact ⟨_, rfl, .rti rfl⟩
  case invalid => exact ⟨_, rfl, .invalid _ rfl rfl⟩

/-- The inversion of `exec`: what a next state of an instruction can be. -/
theorem runsAs_of_exec {i : Instr} {s t : State} (h : exec i s = .next t) : RunsAs i s t := by
  obtain ⟨u, hu, hr⟩ := exec_runsAs i s
  rw [hu] at h
  injection h with h
  exact h ▸ hr

end Sys2Proof.Laws
end

section
/-! The cycle count every instruction carries (R10, R244). -/

namespace Sys2Proof.Laws
open Sys2Proof.Machine

/-- A base count and the cycle of a crossed page stay in range (R126). -/
theorem base_add_crossed_range {base : Nat} (hb : 2 ≤ base ∧ base ≤ 6) (crossed : Bool) :
    2 ≤ base + crossed.toNat ∧ base + crossed.toNat ≤ 7 := by
  have := crossed.toNat_le
  omega

/-- A branch takes 2, 3 or 4 cycles (R200). -/
theorem branch_cycles (cond : Bool) (d : Byte) (s : State) :
    ∃ n, (branch cond d s).cycles = some n ∧ 2 ≤ n ∧ n ≤ 4 := by
  unfold branch
  cases cond with
  | false => exact ⟨2, rfl, by decide⟩
  | true => exact ⟨_, rfl, by split <;> decide⟩

/-- An invalid opcode takes 0 cycles (R244), every other instruction 2 to 7 (R10). -/
theorem RunsAs.cycles {i : Instr} {s t : State} (h : RunsAs i s t) :
    (i.mnemonic = .INVALID ∧ t.cycles = some 0) ∨
    (i.mnemonic ≠ .INVALID ∧ ∃ n, t.cycles = some n ∧ 2 ≤ n ∧ n ≤ 7) := by
  cases h
  case invalid hm _ => exact .inl ⟨hm, rfl⟩
  all_goals refine .inr ⟨fun e => by simp_all, ?_⟩
  case lda hb | ldx hb | ldy hb | adc hb | sbc hb | compare hb | logic hb => exact ⟨_, rfl, base_add_crossed_range hb _⟩
  case bit hb => exact ⟨_, rfl, hb.1, by omega⟩
  case store hb | modifyMem hb | shiftMem hb | jump hb => exact ⟨_, rfl, hb⟩
  case branch cond d _ =>
    obtain ⟨n, hn, hlo, hhi⟩ := branch_cycles cond d s
    exact ⟨n, hn, hlo, by omega⟩
  all_goals exact ⟨_, rfl, by decide⟩

/-- Settles O11, by cases on the shared operation the instruction ends in. -/
theorem cycleCountsAreInRange : Obligations.CycleCountsAreInRange := by
  intro i s t h
  obtain ⟨hm, hc⟩ | ⟨hm, n, hc, hlo, hhi⟩ := (runsAs_of_exec h).cycles
  · exact ⟨0, hc, by simp [hm], .inl rfl⟩
  · exact ⟨n, hc, ⟨fun h0 => by omega, fun e => absurd e hm⟩, .inr ⟨hlo, hhi⟩⟩

end Sys2Proof.Laws
end

section
/-! What a run leaves alone (R32, R36, R62): parameters, schedule, mode, and of the devices all that `DevFrame` says, for every
instruction and then for every event. -/

namespace Sys2Proof.Laws
open Sys2Proof.Machine

/-- What the execution of an instruction keeps: lifecycle mode, parameters, schedule, and of the devices all but the bytes at some
addresses and the states of the peripherals. -/
structure RunFrame (s t : State) : Prop where
  mode     : t.mode = s.mode
  config   : t.config = s.config
  schedule : t.schedule = s.schedule
  devices  : ∃ addrs, DevFrame addrs s.devices t.devices

theorem RunFrame.trans {s t u : State} (h : RunFrame s t) (g : RunFrame t u) : RunFrame s u :=
  have ⟨_, hd⟩ := h.devices
  have ⟨_, gd⟩ := g.devices
  ⟨g.mode.trans h.mode, g.config.trans h.config, g.schedule.trans h.schedule, _, hd.trans gd⟩

theorem RunFrame.refl (s : State) : RunFrame s s := ⟨rfl, rfl, rfl, [], .refl _ _⟩

/-- Reads and writes touch nothing but the bus (`OnlyBus`). -/
theorem OnlyBus.runFrame {s t : State} {addrs : List Addr} (h : OnlyBus s t) (hd : DevFrame addrs s.devices t.devices) :
    RunFrame s t := by
  unfold OnlyBus at h
  exact ⟨by rw [h], by rw [h], by rw [h], addrs, hd⟩

section combinators
variable {s u : State} (h : RunFrame s u)
include h

theorem RunFrame.setA (v : Byte) : RunFrame s (u.setA v) := ⟨h.mode, h.config, h.schedule, h.devices⟩
theorem RunFrame.setSp (v : Byte) : RunFrame s (u.setSp v) := ⟨h.mode, h.config, h.schedule, h.devices⟩
theorem RunFrame.setP (v : Byte) : RunFrame s (u.setP v) := ⟨h.mode, h.config, h.schedule, h.devices⟩
theorem RunFrame.setPc (w : Addr) : RunFrame s (u.setPc w) := ⟨h.mode, h.config, h.schedule, h.devices⟩
theorem RunFrame.loadA (v : Byte) : RunFrame s (u.loadA v) := ⟨h.mode, h.config, h.schedule, h.devices⟩
theorem RunFrame.loadX (v : Byte) : RunFrame s (u.loadX v) := ⟨h.mode, h.config, h.schedule, h.devices⟩
theorem RunFrame.loadY (v : Byte) : RunFrame s (u.loadY v) := ⟨h.mode, h.config, h.schedule, h.devices⟩
theorem RunFrame.setFlag (f : Flag) (v : Bool) : RunFrame s (u.setFlag f v) := h.setP _
theorem RunFrame.setCycles (n : Nat) : RunFrame s (u.setCycles n) := ⟨h.mode, h.config, h.schedule, h.devices⟩
theorem RunFrame.emitReport (w : Addr) (op : Byte) : RunFrame s (u.emitReport w op) :=
  ⟨h.mode, h.config, h.schedule, h.devices⟩
theorem RunFrame.finish (len cyc : Nat) : RunFrame s (u.finish len cyc) := (h.setPc _).setCycles _

theorem RunFrame.afterRead (a : Addr) : RunFrame s (u.afterRead a) :=
  h.trans ((OnlyBus.afterRead u a).runFrame (frame_afterRead u a))
theorem RunFrame.busWrite (a : Addr) (v : Byte) : RunFrame s (u.busWrite a v) :=
  h.trans ((OnlyBus.busWrite u a v).runFrame (frame_busWrite u a v))
theorem RunFrame.push (v : Byte) : RunFrame s (u.push v) := (h.busWrite _ v).setSp _
theorem RunFrame.pull : RunFrame s u.pull.state := (h.setSp _).afterRead _
theorem RunFrame.pushWord (w : Addr) : RunFrame s (u.pushWord w) := (h.push _).push _
theorem RunFrame.pullWord : RunFrame s u.pullWord.state := h.pull.pull

end combinators

theorem runFrame_resolve (m : AddrMode) (s : State) : RunFrame s (resolve m s).state :=
  (resolve_onlyBus m s).runFrame (frame_resolve m s)

theorem runFrame_fetch (src : Source) (s : State) : RunFrame s (src.fetch s).state :=
  (fetch_onlyBus src s).runFrame (frame_fetch src s)

theorem runFrame_fetchInstr (s : State) : RunFrame s (fetch s).state :=
  (fetchInstr_onlyBus s).runFrame (frame_fetchInstr s)

theorem runFrame_intSeq (s : State) (vec : Addr) : RunFrame s (s.intSeq vec) :=
  ⟨by simp, by simp, by simp, _, frame_intSeq s vec⟩

theorem runFrame_returnFromInterrupt (s : State) : RunFrame s s.returnFromInterrupt :=
  (((RunFrame.refl s).pull.setP _).pullWord).setPc _

theorem runFrame_branch (cond : Bool) (d : Byte) (s : State) : RunFrame s (branch cond d s) := by
  cases cond <;> exact ((RunFrame.refl s).setPc _).setCycles _

/-- Masked or not, BRK keeps what interrupt entry keeps (R242). -/
theorem runFrame_breakInstr (s : State) : RunFrame s (breakInstr s) := by
  have hpc := (RunFrame.refl s).setPc (s.pc + 2)
  unfold breakInstr
  dsimp only
  split
  · exact (hpc.setFlag _ _).setCycles _
  · exact ((hpc.trans (runFrame_intSeq _ _)).setFlag _ _).setCycles _

theorem RunsAs.runFrame {i : Instr} {s t : State} (h : RunsAs i s t) : RunFrame s t := by
  have hs := RunFrame.refl s
  cases h
  case lda src _ _ _ _ => exact ((runFrame_fetch src s).loadA _).finish _ _
  case ldx src _ _ _ _ => exact ((runFrame_fetch src s).loadX _).finish _ _
  case ldy src _ _ _ _ => exact ((runFrame_fetch src s).loadY _).finish _ _
  case logic src _ _ _ _ => exact ((runFrame_fetch src s).loadA _).finish _ _
  case adc src _ _ _ _ | sbc src _ _ _ _ => exact (((runFrame_fetch src s).setA _).setP _).finish _ _
  case compare src _ _ _ _ | bit src _ _ _ _ => exact ((runFrame_fetch src s).setP _).finish _ _
  case store m _ _ _ _ => exact ((runFrame_resolve m s).busWrite _ _).finish _ _
  case modifyMem m _ _ _ _ | shiftMem m _ _ _ _ _ =>
    exact ((((runFrame_resolve m s).afterRead _).busWrite _ _).setP _).finish _ _
  case shiftAcc => exact ((hs.setA _).setP _).finish _ _
  case loadA => exact (hs.loadA _).finish _ _
  case loadX => exact (hs.loadX _).finish _ _
  case loadY => exact (hs.loadY _).finish _ _
  case txs => exact (hs.setSp _).finish _ _
  case branch cond d _ => exact runFrame_branch cond d s
  case jump m _ _ _ => exact ((runFrame_resolve m s).setPc _).setCycles _
  case jsr => exact ((hs.pushWord _).setPc _).setCycles _
  case rts => exact (hs.pullWord.setPc _).setCycles _
  case push => exact (hs.push _).finish _ _
  case pla => exact (hs.pull.loadA _).finish _ _
  case plp => exact (hs.pull.setP _).finish _ _
  case flag => exact (hs.setFlag _ _).finish _ _
  case nop => exact hs.finish _ _
  case brk => exact runFrame_breakInstr s
  case rti => exact (runFrame_returnFromInterrupt s).setCycles _
  case invalid => exact ((hs.emitReport _ _).setPc _).setCycles _

/-- No instruction changes mode, parameters, schedule or the construction of a device. -/
theorem exec_runFrame {i : Instr} {s t : State} (h : exec i s = .next t) : RunFrame s t := (runsAs_of_exec h).runFrame

/-- An input from the outside changes no construction and no stored byte of any device (R60). -/
theorem frame_input (ds : List Device) (k : Nat) (data : List Byte) : DevFrame [] ds (ds.modify k (·.input data)) := by
  induction ds generalizing k with
  | nil => simpa using DevFrame.refl [] []
  | cons d rest ih =>
    cases k with
    | zero => exact .cons (by simp) (by simp) (wf_input d data) (.refl _ _)
    | succ n => exact .cons rfl (fun _ _ => rfl) id (ih n)

/-- `Reset` makes its two reads and leaves the devices as these leave them (R281). -/
theorem frame_resetEvent (s : State) : DevFrame [] s.devices (resetEvent s).devices :=
  frame_readPair { s.beginEvent with a := 0x00, x := 0x00, y := 0x00, sp := 0xFF, p := 0x04, mode := .running } _ _

/-- Every event keeps the parameters, and of every device what `DevFrame` says (R36, R62). -/
theorem step_frame {s t : State} (h : step s = .next t) :
    t.config = s.config ∧ ∃ addrs, DevFrame addrs s.devices t.devices := by
  obtain ⟨-, -, he⟩ | ⟨rest, -, rfl⟩ | ⟨rest, -, -, rfl⟩ | ⟨rest, -, -, rfl⟩ | ⟨k, data, rest, -, rfl⟩ := step_cases h
  · have hr := (runFrame_fetchInstr { s.beginEvent with schedule := s.schedule.tail }).trans (exec_runFrame he)
    exact ⟨hr.config, hr.devices⟩
  · exact ⟨rfl, _, frame_resetEvent { s with schedule := rest }⟩
  · split
    · exact ⟨rfl, [], .refl _ _⟩
    · have hr := runFrame_intSeq { s.beginEvent with schedule := rest } irqVector
      exact ⟨hr.config, hr.devices⟩
  · have hr := runFrame_intSeq { s.beginEvent with schedule := rest } nmiVector
    exact ⟨hr.config, hr.devices⟩
  · exact ⟨rfl, _, frame_input s.devices k data⟩

/-- Settles O17: the platform is the devices' shapes, and no event changes one. -/
theorem stepKeepsThePlatform : Obligations.StepKeepsThePlatform := by
  intro s t h
  obtain ⟨hc, addrs, hd⟩ := step_frame h
  exact ⟨hd.shape, hc⟩

end Sys2Proof.Laws
end

section
/-! The frame of an instruction from `DevFrame`, and the common end of ADC and SBC in both modes (R153, R156). -/

namespace Sys2Proof.Laws
open Sys2Proof.Machine Sys2Proof.Stated

/-- What `DevFrame` says of the devices is what `MemorySame` says of the state. -/
theorem DevFrame.memorySame {addrs : List Addr} {s t : State} (h : DevFrame addrs s.devices t.devices) :
    MemorySame addrs s t := fun c hc => ⟨fun k => h.stored c hc k, h.peek c hc⟩

/-- The frame of an instruction from its registers, its flags and the devices. -/
theorem frame_of_runFrame {regs : List Reg} {flags : List Flag} {addrs : List Addr} {s t : State}
    (hr : ∀ r, r ∉ regs → regOf t r = regOf s r) (hf : ∀ f, f ∉ flags → t.flag f = s.flag f) (h : RunFrame s t)
    (hd : DevFrame addrs s.devices t.devices) : Frame regs flags addrs s t :=
  ⟨hr, hf, h.mode, h.config, h.schedule, hd.shape, hd.memorySame⟩

/-- The end ADC and SBC share: the result into A, the flags from the overflow and the result, on to the next instruction. -/
def arithEnd (src : Source) (base : Nat) (overflow : Bool) (r : ByteCarry) (s : State) : State :=
  (((src.fetch s).state.setA r.result).setP (arithStatus overflow r s.p)).finish
    src.length (base + (src.fetch s).crossed.toNat)

theorem adc_decimal (src : Source) (base : Nat) (s : State) (hd : s.flag .d = true) :
    adc src base s =
      let m := (src.fetch s).value
      let r := addDec s.config s.a m (s.flag .c)
      arithEnd src base (overflowAdd s.a m r.result) r s := by
  simp only [adc, hd, if_true, arithEnd]

theorem sbc_decimal (src : Source) (base : Nat) (s : State) (hd : s.flag .d = true) :
    sbc src base s =
      let m := (src.fetch s).value
      let r := subDec s.config s.a m (s.flag .c)
      arithEnd src base (overflowSub s.a m r.result) r s := by
  simp only [sbc, hd, if_true, arithEnd]

section arithEnd
variable (src : Source) (base : Nat) (overflow : Bool) (r : ByteCarry) (s : State)

@[simp] theorem arithEnd_a : (arithEnd src base overflow r s).a = r.result := rfl

/-- N and Z from the result, C and V as given, every other flag kept. -/
theorem arithEnd_flag (f : Flag) :
    (arithEnd src base overflow r s).flag f =
      if f = .n then r.result.getLsbD 7 else if f = .z then r.result == 0 else if f = .c then r.carry
      else if f = .v then overflow else s.flag f := by
  simp [arithEnd, flag_eq]

theorem arithEnd_regOf (g : Reg) (hg : g ∉ [Reg.a]) : regOf (arithEnd src base overflow r s) g = regOf s g := by
  cases g with
  | a => simp at hg
  | x => simp [regOf, arithEnd]
  | y => simp [regOf, arithEnd]
  | sp => simp [regOf, arithEnd]

theorem arithEnd_flag_kept (f : Flag) (hf : f ∉ [Flag.n, .v, .z, .c]) :
    (arithEnd src base overflow r s).flag f = s.flag f := by
  simp only [List.mem_cons, List.not_mem_nil, or_false, not_or] at hf
  obtain ⟨hn, hv, hz, hc⟩ := hf
  simp [arithEnd_flag, hn, hv, hz, hc]

theorem arithEnd_frame : Frame [.a] [.n, .v, .z, .c] [] s (arithEnd src base overflow r s) :=
  frame_of_runFrame (arithEnd_regOf src base overflow r s) (arithEnd_flag_kept src base overflow r s)
    ((((runFrame_fetch src s).setA _).setP _).finish _ _) (frame_fetch src s)

end arithEnd

theorem arithEnd_readEnd (row : ReadRow) (overflow : Bool) (r : ByteCarry) (s : State) :
    ReadEnd row s (arithEnd row.src row.base overflow r s) := by
  simp [ReadEnd, arithEnd]

/-- What ADC and SBC leave, given the result, the carry and the overflow they have computed. -/
theorem arithEnd_spec (row : ReadRow) (overflow : Bool) (r : ByteCarry) (s : State) :
    let t := arithEnd row.src row.base overflow r s
    t.a = r.result ∧ t.flag .c = r.carry ∧ t.flag .v = overflow ∧ t.flag .z = (t.a == 0) ∧ t.flag .n = t.a.getLsbD 7 ∧
      ReadEnd row s t ∧ Frame [.a] [.n, .v, .z, .c] [] s t :=
  ⟨rfl, by simp [arithEnd_flag], by simp [arithEnd_flag], by simp [arithEnd_flag], by simp [arithEnd_flag],
    arithEnd_readEnd row overflow r s, arithEnd_frame row.src row.base overflow r s⟩

/-- Every row of ADC is the shared addition on the row's operand (R153). -/
theorem exec_adcRow {v b : Byte} {w : Addr} {row : ReadRow} (h : row ∈ adcRows v b w) (s : State) :
    exec row.instr s = .next (adc row.src row.base s) := by
  simp only [adcRows, List.mem_cons, List.not_mem_nil, or_false] at h
  rcases h with rfl | rfl | rfl | rfl | rfl | rfl | rfl | rfl <;> rfl

/-- Every row of SBC is the shared subtraction on the row's operand (R156). -/
theorem exec_sbcRow {v b : Byte} {w : Addr} {row : ReadRow} (h : row ∈ sbcRows v b w) (s : State) :
    exec row.instr s = .next (sbc row.src row.base s) := by
  simp only [sbcRows, List.mem_cons, List.not_mem_nil, or_false] at h
  rcases h with rfl | rfl | rfl | rfl | rfl | rfl | rfl | rfl <;> rfl

/-- Without entries the parameter `DecAdc` is the spec's formula (R159). -/
theorem addDec_of_no_entry {cfg : Config} (h : cfg.decAdc = []) (a m : Byte) (cin : Bool) :
    addDec cfg a m cin = addDecFormula a m cin := by
  simp [addDec, decimalOverride, h]

/-- Without entries the parameter `DecSbc` is the spec's formula (R159). -/
theorem subDec_of_no_entry {cfg : Config} (h : cfg.decSbc = []) (a m : Byte) (cin : Bool) :
    subDec cfg a m cin = subDecFormula a m cin := by
  simp [subDec, decimalOverride, h]

/-- Settles O38: both run to `arithEnd` of what their parameter gives, whatever the operands hold. -/
theorem decimalRunsOnEveryOperand : Obligations.DecimalRunsOnEveryOperand := by
  intro v b w s hd
  constructor
  · intro row hrow
    refine ⟨fun h => addDec_of_no_entry h _ _ _, _, exec_adcRow hrow s, ?_⟩
    rw [adc_decimal row.src row.base s hd]
    exact arithEnd_spec row _ _ s
  · intro row hrow
    refine ⟨fun h => subDec_of_no_entry h _ _ _, _, exec_sbcRow hrow s, ?_⟩
    rw [sbc_decimal row.src row.base s hd]
    exact arithEnd_spec row _ _ s

end Sys2Proof.Laws
end

section
/-! The `Reset` event by fields (R280, R281), and on the platform of `State.reset`. -/

namespace Sys2Proof.Laws
open Sys2Proof.Machine

/-- A `Reset` at the head of the schedule is the step, in either mode (R280). -/
theorem step_of_reset {s : State} {rest : List Event} (h : s.schedule = .reset :: rest) :
    step s = .next (resetEvent { s with schedule := rest }) := by
  simp only [step, h, perform]

section resetEvent
variable (s : State)

@[simp] theorem resetEvent_a : (resetEvent s).a = 0x00 := rfl
@[simp] theorem resetEvent_x : (resetEvent s).x = 0x00 := rfl
@[simp] theorem resetEvent_y : (resetEvent s).y = 0x00 := rfl
@[simp] theorem resetEvent_sp : (resetEvent s).sp = 0xFF := rfl
@[simp] theorem resetEvent_p : (resetEvent s).p = 0x04 := rfl
@[simp] theorem resetEvent_pc :
    (resetEvent s).pc = wordOf ((s.afterRead 0xFFFC).byteAt 0xFFFD) (s.byteAt 0xFFFC) := rfl
@[simp] theorem resetEvent_mode : (resetEvent s).mode = .running := rfl
@[simp] theorem resetEvent_devices : (resetEvent s).devices = busAfterRead (busAfterRead s.devices 0xFFFC) 0xFFFD := rfl
@[simp] theorem resetEvent_config : (resetEvent s).config = s.config := rfl
@[simp] theorem resetEvent_schedule : (resetEvent s).schedule = s.schedule := rfl
@[simp] theorem resetEvent_cycles : (resetEvent s).cycles = none := rfl
@[simp] theorem resetEvent_report : (resetEvent s).report = none := rfl
@[simp] theorem resetEvent_accesses :
    (resetEvent s).accesses =
      [.read 0xFFFC (s.byteAt 0xFFFC), .read 0xFFFD ((s.afterRead 0xFFFC).byteAt 0xFFFD)] := rfl

end resetEvent

/-- A look at any address gives 0x00 on the flat RAM: nothing is stored in it, and its fill is 0x00 (log 1, 2). -/
theorem peekDevices_flatRam (a : Addr) : peekDevices [.block flatRam] a = some 0x00 := by
  simp [peekDevices, Device.claims, Device.stored, Block.read, flatRam, Memory.read]

@[simp] theorem busReadValue_flatRam (a : Addr) : busReadValue [.block flatRam] a = 0x00 :=
  (peek_read _ a _ (peekDevices_flatRam a)).1

@[simp] theorem busAfterRead_flatRam (a : Addr) : busAfterRead [.block flatRam] a = [.block flatRam] :=
  (peek_read _ a _ (peekDevices_flatRam a)).2

/-- Settles O14, field by field: the two vector bytes read on the flat RAM are 0x00, and reading changes nothing. -/
theorem resetStateIsAResetEvent : Obligations.ResetStateIsAResetEvent := by
  intro s hd hc hs
  have hpc : wordOf 0#8 0#8 = 0#16 := by decide
  rw [step_of_reset hs]
  congr 1
  apply state_ext <;> simp [State.reset, byteAt_eq, hd, hc, hpc]

end Sys2Proof.Laws
end

section
/-! What an instruction leaves alone of the core, by cases on the shared operation it ends in (`RunsAs`): the registers and flags the
tables do not give it (R21, R22, R23, R25, R27), and, where it transfers no control, PC but for the step past it (R24, R215). -/

namespace Sys2Proof.Laws
open Sys2Proof.Machine Sys2Proof.Stated

/-! ### The table of registers, register by register -/

section written
variable {i : Instr}

theorem a_mem_registersWritten (hm : i.mnemonic ∈ [.LDA, .TXA, .TYA, .ADC, .SBC, .AND, .ORA, .EOR, .PLA]) :
    .a ∈ registersWritten i := by
  unfold registersWritten
  revert hm
  cases i.mnemonic <;> simp

theorem a_mem_registersWritten_of_acc (hm : i.mnemonic ∈ [.ASL, .LSR, .ROL, .ROR]) (hf : i.format = .acc) :
    .a ∈ registersWritten i := by
  unfold registersWritten
  revert hm
  cases i.mnemonic <;> simp [hf]

theorem x_mem_registersWritten (hm : i.mnemonic ∈ [.LDX, .TAX, .TSX, .INX, .DEX]) : .x ∈ registersWritten i := by
  unfold registersWritten
  revert hm
  cases i.mnemonic <;> simp

theorem y_mem_registersWritten (hm : i.mnemonic ∈ [.LDY, .TAY, .INY, .DEY]) : .y ∈ registersWritten i := by
  unfold registersWritten
  revert hm
  cases i.mnemonic <;> simp

theorem sp_mem_registersWritten (hm : i.mnemonic ∈ [.TXS, .PHA, .PHP, .PLA, .PLP, .JSR, .RTS, .RTI, .BRK]) :
    .sp ∈ registersWritten i := by
  unfold registersWritten
  revert hm
  cases i.mnemonic <;> simp

theorem ne_of_mem_registersWritten {r g : Reg} (hr : r ∉ registersWritten i) (hg : g ∈ registersWritten i) : r ≠ g :=
  fun e => hr (e ▸ hg)

end written

/-! ### Registers -/

/-- BRK, masked or not, moves no register but SP (R242). -/
theorem breakInstr_regOf (s : State) (r : Reg) (hr : r ≠ .sp) : regOf (breakInstr s) r = regOf s r := by
  unfold breakInstr
  dsimp only
  split <;> cases r <;> simp_all [regOf]

/-- Each shared operation writes the register its mnemonics' row lists, and no other. -/
theorem runsAs_regOf {i : Instr} {s t : State} (h : RunsAs i s t) {r : Reg} (hr : r ∉ registersWritten i) :
    regOf t r = regOf s r := by
  cases h
  case compare | bit | store | modifyMem | shiftMem | jump | flag | nop | invalid =>
    cases r <;> simp [regOf, compareWith, bitTest, store, modifyMem, shift, jump, flagOp]
  case branch cond _ _ => cases cond <;> cases r <;> rfl
  case lda hm _ _ | adc hm _ _ | sbc hm _ _ | logic hm _ _ | loadA hm _ =>
    have hne := ne_of_mem_registersWritten hr (a_mem_registersWritten (by aesop))
    cases r <;> simp_all [regOf, lda, adc, sbc, logic]
  case shiftAcc hm hf =>
    have hne := ne_of_mem_registersWritten hr (a_mem_registersWritten_of_acc hm hf)
    cases r <;> simp_all [regOf, shift]
  case ldx hm _ _ | loadX hm _ =>
    have hne := ne_of_mem_registersWritten hr (x_mem_registersWritten (by aesop))
    cases r <;> simp_all [regOf, ldx]
  case ldy hm _ _ | loadY hm _ =>
    have hne := ne_of_mem_registersWritten hr (y_mem_registersWritten (by aesop))
    cases r <;> simp_all [regOf, ldy]
  case pla hm _ =>
    have hne := ne_of_mem_registersWritten hr (a_mem_registersWritten (by simp [hm]))
    have hne' := ne_of_mem_registersWritten hr (sp_mem_registersWritten (by simp [hm]))
    cases r <;> simp_all [regOf, pullA]
  case txs hm _ | jsr hm | rts hm | push hm _ | plp hm _ | rti hm =>
    have hne := ne_of_mem_registersWritten hr (sp_mem_registersWritten (by aesop))
    cases r <;> simp_all [regOf, callSubroutine, resolve, returnFromSubroutine, pullP, State.returnFromInterrupt]
  case brk hm => exact breakInstr_regOf s r (ne_of_mem_registersWritten hr (sp_mem_registersWritten (by simp [hm])))

/-- Settles O19, by cases on the shared operation the instruction ends in. -/
theorem registersWrittenAreThoseListed : Obligations.RegistersWrittenAreThoseListed :=
  fun _ _ _ _ h hr => runsAs_regOf (runsAs_of_exec h) hr

/-! ### Flags -/

/-- The rows whose flags are those of `SetZN` (R150). -/
theorem flagsWritten_eq_nz {m : Mnemonic}
    (hm : m ∈ [.LDA, .LDX, .LDY, .AND, .ORA, .EOR, .INC, .DEC, .TXA, .TYA, .TAX, .TSX, .INX, .DEX, .TAY, .INY, .DEY, .PLA]) :
    flagsWritten m = [.n, .z] := by
  revert hm
  cases m <;> simp [flagsWritten]

/-- The rows of the compares and the shifts (R163, R175). -/
theorem flagsWritten_eq_nzc {m : Mnemonic} (hm : m ∈ [.CMP, .CPX, .CPY, .ASL, .LSR, .ROL, .ROR]) :
    flagsWritten m = [.n, .z, .c] := by
  revert hm
  cases m <;> simp [flagsWritten]

/-- BRK, masked or not, writes B; the interrupt entry in it may write I (R242, R254). -/
theorem breakInstr_flag (s : State) (f : Flag) (hb : f ≠ .b) (hi : f = .i → s.config.irqEntrySetsI = false) :
    (breakInstr s).flag f = s.flag f := by
  unfold breakInstr
  dsimp only
  split
  · simp [flag_eq, hb]
  · cases hc : s.config.irqEntrySetsI with
    | false => simp [flag_eq, hb, hc]
    | true =>
      have hne : f ≠ .i := fun e => by simp [hi e] at hc
      simp [flag_eq, hb, hc, hne]

/-- Each shared operation writes flags its mnemonics' row lists, and no other. -/
theorem runsAs_flag {i : Instr} {s t : State} (h : RunsAs i s t) {f : Flag} (hf : f ∉ flagsWritten i.mnemonic)
    (hi : i.mnemonic = .BRK → f = .i → s.config.irqEntrySetsI = false) : t.flag f = s.flag f := by
  cases h
  case store | jump | txs | jsr | rts | push | nop | invalid =>
    simp [flag_eq, store, jump, callSubroutine, returnFromSubroutine]
  case branch cond _ _ => cases cond <;> rfl
  case lda hm _ _ | ldx hm _ _ | ldy hm _ _ | logic hm _ _ | modifyMem hm _ _ | loadA hm _ | loadX hm _ | loadY hm _ |
      pla hm _ =>
    rw [flagsWritten_eq_nz (by aesop)] at hf
    simp_all [flag_eq, lda, ldx, ldy, logic, modifyMem, pullA]
  case compare hm _ _ | shiftAcc hm _ | shiftMem hm _ _ _ =>
    rw [flagsWritten_eq_nzc (by aesop)] at hf
    simp_all [flag_eq, compareWith, shift]
  case adc hm _ _ | sbc hm _ _ | bit hm _ _ =>
    rw [hm, flagsWritten] at hf
    simp_all [flag_eq, adc, sbc, bitTest]
  case flag g v hm _ =>
    have hg : g ∈ flagsWritten i.mnemonic := (by decide : ∀ q ∈ _, q.2 ∈ flagsWritten q.1) _ hm
    have hne : f ≠ g := fun e => hf (e ▸ hg)
    simp [flag_eq, flagOp, hne]
  case plp hm _ | rti hm =>
    rw [hm] at hf
    cases f <;> simp [flagsWritten] at hf
  case brk hm => exact breakInstr_flag s f (by simpa [hm, flagsWritten] using hf) (hi hm)

/-- Settles O18, by cases on the shared operation the instruction ends in. -/
theorem flagsWrittenAreThoseOfTheTable : Obligations.FlagsWrittenAreThoseOfTheTable :=
  fun _ _ _ _ h hf hi => runsAs_flag (runsAs_of_exec h) hf hi

/-! ### The program counter -/

theorem transfersControl_of_mem {i : Instr}
    (hm : i.mnemonic ∈ [.BCC, .BCS, .BEQ, .BMI, .BNE, .BPL, .BVC, .BVS, .JMP, .JSR, .RTS, .RTI, .BRK]) :
    transfersControl i = true := by
  unfold transfersControl
  revert hm
  cases i.mnemonic <;> simp

/-- Each shared operation that is no control transfer ends by stepping past the instruction. -/
theorem runsAs_pc {i : Instr} {s t : State} (h : RunsAs i s t) (hc : transfersControl i = false) :
    t.pc = s.pc + BitVec.ofNat 16 i.length := by
  cases h
  case branch hm | jump hm _ | jsr hm | rts hm | rti hm | brk hm =>
    rw [transfersControl_of_mem (by aesop)] at hc
    cases hc
  case shiftAcc hf =>
    have hl : i.length = 1 := by rw [Instr.length, hf, Format.length]
    simp [shift, hl]
  case lda hl _ | ldx hl _ | ldy hl _ | adc hl _ | sbc hl _ | compare hl _ | logic hl _ | bit hl _ | store hl _ |
      modifyMem hl _ | shiftMem hl _ =>
    simp [lda, ldx, ldy, adc, sbc, compareWith, logic, bitTest, store, modifyMem, shift, hl]
  case loadA hl | loadX hl | loadY hl | txs hl | push hl | pla hl | plp hl | flag hl | nop hl | invalid hl =>
    simp [pullA, pullP, flagOp, hl]

/-- Settles O20, by cases on the shared operation the instruction ends in. -/
theorem plainInstructionsAdvancePc : Obligations.PlainInstructionsAdvancePc :=
  fun _ _ _ h hc => runsAs_pc (runsAs_of_exec h) hc

end Sys2Proof.Laws
end

section
/-! The lifecycle mode over a step (R32), and the invariant where a run begins (R37). -/

namespace Sys2Proof.Laws
open Sys2Proof.Machine

/-- The event at the head of the schedule is the step (R9). -/
theorem step_of_schedule {s : State} {e : Event} {rest : List Event} (h : s.schedule = e :: rest) :
    step s = perform e { s with schedule := rest } := by
  simp only [step, h]

/-- With no event left the driver issues `Step` (log 6). -/
theorem step_of_schedule_nil {s : State} (h : s.schedule = []) : step s = perform .step s := by
  simp only [step, h]

/-- The three events that need `running` are refused before the first `Reset` (log 7). -/
theorem perform_awaitingReset {s : State} {e : Event} (h : s.mode = .awaitingReset) (he : e = .step ∨ e = .irq ∨ e = .nmi) :
    perform e s = .refused .beforeReset := by
  obtain rfl | rfl | rfl := he
  · simp only [perform, stepEvent, h]
  · simp only [perform, irqEvent, h]
  · simp only [perform, nmiEvent, h]

/-- Settles O9: the head of the schedule is the step, and only `Reset` is enabled in `awaitingReset`. -/
theorem beforeResetStepIrqNmiAreRefused : Obligations.BeforeResetStepIrqNmiAreRefused := by
  intro s hm
  constructor
  · rintro (hnil | ⟨e, rest, hs, he⟩)
    · exact (step_of_schedule_nil hnil).trans (perform_awaitingReset hm (.inl rfl))
    · exact (step_of_schedule hs).trans (perform_awaitingReset hm he)
  · intro rest hs
    exact ⟨_, step_of_reset hs, resetEvent_mode _⟩

/-- A step keeps the mode, or is a `Reset` and ends in `running` (R32). -/
theorem step_mode {s t : State} (h : step s = .next t) :
    t.mode = s.mode ∨ (s.schedule.head? = some .reset ∧ t.mode = .running) := by
  obtain ⟨-, -, he⟩ | ⟨rest, hs, rfl⟩ | ⟨rest, -, -, rfl⟩ | ⟨rest, -, -, rfl⟩ | ⟨k, data, rest, -, rfl⟩ := step_cases h
  · exact .inl ((runFrame_fetchInstr _).trans (exec_runFrame he)).mode
  · exact .inr ⟨by rw [hs, List.head?_cons], resetEvent_mode _⟩
  · left
    split
    · rfl
    · exact intSeq_mode _ _
  · exact .inl (intSeq_mode _ _)
  · exact .inl rfl

/-- Settles O10, by cases on the event. -/
theorem onlyResetChangesMode : Obligations.OnlyResetChangesMode :=
  fun _ _ h hne => (step_mode h).resolve_left hne

/-- The flat RAM is in order, and its empty list is in canonical form. -/
theorem wf_flatRam : (Device.block flatRam).wf := ⟨by decide, List.Pairwise.nil, by simp [flatRam]⟩

/-- Settles O15: the one device of `State.reset` is the flat RAM. -/
theorem resetMeetsTheInvariant : Obligations.ResetMeetsTheInvariant :=
  ⟨fun _ hd => List.eq_of_mem_singleton hd ▸ wf_flatRam, rfl⟩

end Sys2Proof.Laws
end

section
/-! Interrupt entry as the spec gives it (R251), and the `IRQ` event (R253). -/

namespace Sys2Proof.Laws
open Sys2Proof.Machine Sys2Proof.Stated

/-- Interrupt entry keeps every flag; I is set where `IRQ_ENTRY_SETS_I` holds (R254). -/
theorem intSeq_flag (s : State) (vec : Addr) (f : Flag) :
    (s.intSeq vec).flag f = if f = .i then s.flag .i || s.config.irqEntrySetsI else s.flag f := by
  rw [flag_eq, intSeq_p]
  cases s.config.irqEntrySetsI <;> by_cases hf : f = .i <;> simp [flag_eq, hf]

theorem intSeq_regOf (s : State) (vec : Addr) (r : Reg) (hr : r ≠ .sp) : regOf (s.intSeq vec) r = regOf s r := by
  cases r <;> simp_all [regOf]

/-- Interrupt entry changes SP, I and the three stack bytes, and nothing else but PC. -/
theorem intSeq_frame (s : State) (vec : Addr) :
    Frame [.sp] [.i] [stackAddr s.sp, stackAddr (s.sp - 1), stackAddr (s.sp - 2)] s (s.intSeq vec) := by
  have h2 : s.sp - 1 - 1 = s.sp - 2 := by bv_omega
  refine frame_of_runFrame (fun r hr => intSeq_regOf s vec r (by simpa using hr)) (fun f hf => ?_)
    (runFrame_intSeq s vec) (h2 ▸ frame_intSeq s vec)
  rw [intSeq_flag, if_neg (by simpa using hf)]

/-- The three pushes and the two vector reads of interrupt entry, in order, with its frame (R251, R255). -/
theorem intSeq_entered (s : State) (vec : Addr) : Entered vec [] s (s.intSeq vec) := by
  have h2 : s.sp - 1#8 - 1#8 = s.sp - 2#8 := by bv_omega
  have h3 : s.sp - 1#8 - 1#8 - 1#8 = s.sp - 3#8 := by bv_omega
  refine ⟨?_, ?_, ?_, ?_, by rw [intSeq_flag, if_pos rfl], intSeq_report s vec, intSeq_frame s vec⟩
  · simp [State.intSeq, byteAt_eq, State.read16, State.readPair, h2]
  · simp [h3]
  · simp [State.intSeq, h2]
  · simp [State.intSeq, byteAt_eq, State.read16, State.readPair, State.pushWord, h2]

/-- In `running` the `IRQ` event is gated by I (R253). -/
theorem irqEvent_running {s : State} (hm : s.mode = .running) :
    irqEvent s = .next (if s.flag .i then s.beginEvent else s.beginEvent.intSeq irqVector) := by
  simp only [irqEvent, hm]

/-- An `IRQ` at the head of the schedule, in `running`, is the step. -/
theorem step_of_irq {s : State} {rest : List Event} (hm : s.mode = .running) (h : s.schedule = .irq :: rest) :
    step s = .next (if s.flag .i then { s.beginEvent with schedule := rest }
      else ({ s.beginEvent with schedule := rest } : State).intSeq irqVector) :=
  (step_of_schedule h).trans (irqEvent_running hm)

/-- Settles O58: with I set nothing is left of the event, with I clear it is interrupt entry. -/
theorem irqIsGatedByI : Obligations.IrqIsGatedByI := by
  intro s rest hm hs
  constructor
  · intro hi
    rw [step_of_irq hm hs, if_pos hi]
  · intro hi
    rw [step_of_irq hm hs, if_neg (by simp [hi])]
    exact ⟨_, rfl, intSeq_cycles _ _, intSeq_entered _ _⟩

end Sys2Proof.Laws
end

section
/-! Well-formed devices over a step (R54, R56, R60). -/

namespace Sys2Proof.Laws
open Sys2Proof.Machine

/-- Settles O16: every event leaves of the devices what `DevFrame` says, well-formedness included. -/
theorem stepKeepsTheInvariant : Obligations.StepKeepsTheInvariant := by
  intro s t hs h
  obtain ⟨-, addrs, hd⟩ := step_frame h
  exact hd.wf hs

end Sys2Proof.Laws
end

section
/-! The Bus and its devices (R52 to R65): which device an access reaches, and where a byte written is found. -/

namespace Sys2Proof.Laws
open Sys2Proof.Machine Sys2Proof.Stated

/-- With no claiming device a read returns 0x00 and no device sees it (R63). -/
theorem busRead_unclaimed {ds : List Device} {a : Addr} (h : ∀ d ∈ ds, d.claims a true = false) :
    busReadValue ds a = 0x00 ∧ busAfterRead ds a = ds := by
  induction ds with
  | nil => exact ⟨rfl, rfl⟩
  | cons d rest ih =>
    have hd : d.claims a true = false := h d (by simp)
    have := ih fun e he => h e (by simp [he])
    simp [busReadValue, busAfterRead, hd, this]

/-- With no claiming device a write is dropped (R64, D24). -/
theorem busAfterWrite_unclaimed {ds : List Device} {a : Addr} (v : Byte) (h : ∀ d ∈ ds, d.claims a false = false) :
    busAfterWrite ds a v = ds := by
  induction ds with
  | nil => rfl
  | cons d rest ih =>
    have hd : d.claims a false = false := h d (by simp)
    simp [busAfterWrite, hd, ih fun e he => h e (by simp [he])]

/-- Settles O22: the first claimant by `busReadValue_split`, none by `busRead_unclaimed`. -/
theorem busReadReachesTheFirstClaimant : Obligations.BusReadReachesTheFirstClaimant := by
  intro s a
  constructor
  · intro pre d post hds hpre hd
    rw [byteAt_eq, afterRead_devices, hds]
    exact busReadValue_split pre post d a hpre hd
  · exact busRead_unclaimed

/-- Settles O23: the first claimant by `busAfterWrite_split`, none by `busAfterWrite_unclaimed`. -/
theorem busWriteReachesTheFirstClaimant : Obligations.BusWriteReachesTheFirstClaimant := by
  intro s a v
  constructor
  · intro pre d post hds hpre hd
    rw [busWrite_devices, hds]
    exact busAfterWrite_split pre post d a v hpre hd
  · exact busAfterWrite_unclaimed v

/-- A block claims its inclusive range, for writes only when it is not read-only (R55). -/
theorem block_claims_iff (b : Block) (a : Addr) (r : Bool) :
    (Device.block b).claims a r = true ↔
      b.start.toNat ≤ a.toNat ∧ a.toNat ≤ b.stop.toNat ∧ (r = true ∨ b.readOnly = false) := by
  simp [Device.claims, Block.covers, and_assoc]

/-- Settles O24: `block_claims_iff`, and `read_store` for the byte written. -/
theorem blockDeviceReadsBackWrites : Obligations.BlockDeviceReadsBackWrites := by
  intro b a c v r
  refine ⟨block_claims_iff b a r, rfl, ?_, ?_⟩
  · intro hro
    simp [Device.write, Block.write, hro]
  · intro hro ha hc
    simp [Device.write, Block.write, hro, Device.readValue, read_store b a c v ha hc, eq_comm (a := a)]

/-- Settles O25: a look finds the byte written, so a read returns it. -/
theorem ramReturnsTheByteWritten : Obligations.RamReturnsTheByteWritten := by
  intro s a v h
  have hp : peekDevices (s.busWrite a v).devices a = some v := peek_busWrite_ram s a v h
  exact ⟨(peek_read _ a v hp).1, hp, (frame_busWrite s a v).memorySame⟩

/-- A read-only block claims no write (R55). -/
theorem rom_claims_write {rom : Block} (h : rom.readOnly = true) (a : Addr) : (Device.block rom).claims a false = false := by
  simp [Device.claims, h]

/-- Settles O26: the write passes the ROM and stops at the RAM, the read stops at the ROM. -/
theorem writeBehindRomIsHidden : Obligations.WriteBehindRomIsHidden := by
  intro s rom ram a v hds hrom hram hcov hcov'
  have hw : (s.busWrite a v).devices = [.block rom, .block (ram.store a v)] := by
    have := busAfterWrite_split [.block rom] [] (.block ram) a v (by simp [rom_claims_write hrom])
      (by simp [Device.claims, hcov', hram])
    rw [busWrite_devices, hds]
    simpa [Device.write, Block.write, hram] using this
  have hr : ∀ d, busReadValue [.block rom, d] a = rom.read a := fun d =>
    (busReadValue_split [] [d] (.block rom) a (by simp) (by simp [Device.claims, hcov])).1
  refine ⟨?_, ?_, ?_, ?_⟩
  · rw [byteAt_eq, byteAt_eq, hw, hds, hr, hr]
  · rw [byteAt_eq, hds, hr]
  · rw [State.storedAt, hw]
    simp [Device.stored, covers_store, hcov', read_store]
  · rw [State.storedAt, State.storedAt, hw, hds]
    rfl

end Sys2Proof.Laws
end

section
/-! The fetch a `Step` begins with (R72, R92, R240): it reads the bytes the decoder takes, and where blocks answer it changes no
device. -/

namespace Sys2Proof.Laws
open Sys2Proof.Machine

/-- The length of an instruction is decided by its opcode byte alone (R96). -/
theorem decodeOp_length (op b1 b2 : Byte) : (decodeOp op b1 b2).length = opcodeLength op := by
  unfold opcodeLength decodeOp
  split <;> rfl

/-- What the decoder makes of three bytes or more: the opcode's length chooses the operand bytes (R90, R96). -/
theorem decode_three (op b1 b2 : Byte) (r : List Byte) :
    decode (op :: b1 :: b2 :: r) =
      if opcodeLength op = 1 then .ok (decodeOp op 0 0, b1 :: b2 :: r)
      else if opcodeLength op = 2 then .ok (decodeOp op b1 0, b2 :: r)
      else .ok (decodeOp op b1 b2, r) := by
  obtain h | h | h := opcodeLength_range op <;> simp [decode, h]

/-- The fetch gives the instruction that the three bytes from PC on decode to, after the reads of as many bytes as it has. -/
theorem fetch_of_decode {s : State} {i : Instr} {rest : List Byte} :
    let s1 := s.afterRead s.pc
    let s2 := s1.afterRead (s.pc + 1)
    decode [s.byteAt s.pc, s1.byteAt (s.pc + 1), s2.byteAt (s.pc + 2)] = .ok (i, rest) →
    fetch s = ⟨i, if i.length = 1 then s1 else if i.length = 2 then s2 else s2.afterRead (s.pc + 2)⟩ := by
  intro s1 s2 h
  obtain hl | hl | hl := opcodeLength_range (s.byteAt s.pc)
  all_goals
    obtain ⟨rfl, -⟩ : _ ∧ _ := by simpa [decode_three, hl] using h
    simp [fetch, decodeOp_length, hl, s1, s2]

/-- In `running` the `Step` event is `exec` of the instruction fetched (R240). -/
theorem stepEvent_running {s : State} (hm : s.mode = .running) :
    stepEvent s = exec (fetch s.beginEvent).instr (fetch s.beginEvent).state := by
  simp only [stepEvent, hm]

/-- `Step` at the head of the schedule, or nothing there (log 6). -/
theorem step_of_step {s : State} (hm : s.mode = .running) (hs : s.schedule.head? = none ∨ s.schedule.head? = some .step) :
    step s = exec (fetch { s.beginEvent with schedule := s.schedule.tail }).instr
      (fetch { s.beginEvent with schedule := s.schedule.tail }).state := by
  obtain hnil | hstep := hs
  · rw [List.head?_eq_none_iff] at hnil
    have hb : ({ s.beginEvent with schedule := s.schedule.tail } : State) = s.beginEvent := by
      apply state_ext <;> simp [hnil]
    rw [step_of_schedule_nil hnil, hb]
    exact stepEvent_running hm
  · obtain ⟨rest, hrest⟩ := List.head?_eq_some_iff.mp hstep
    rw [step_of_schedule hrest, hrest]
    exact stepEvent_running (s := { s with schedule := rest }) hm

/-- Settles O5: the step is `exec` of the fetched instruction, which `fetch_of_decode` names. -/
theorem stepRunsTheDecodedInstruction : Obligations.StepRunsTheDecodedInstruction := by
  intro s i rest hm hs s0 s1 s2 s3 hd
  rw [step_of_step hm hs, fetch_of_decode (s := s0) hd]
  rfl

/-- A read changes no look at any address (R56). -/
@[simp] theorem peek_afterRead (s : State) (a c : Addr) : (s.afterRead a).peek c = s.peek c :=
  (frame_afterRead s a).peek c (by simp)

/-- A read where a block answers, or nothing: the byte a look gives, and no trace of it but the access (R56, R63). -/
theorem read_of_peek {s : State} {a : Addr} {v : Byte} (h : s.peek a = some v) :
    s.byteAt a = v ∧ s.afterRead a = { s with accesses := s.accesses ++ [.read a v] } := by
  obtain ⟨hv, hd⟩ := peek_read s.devices a v h
  have hv : s.byteAt a = v := hv
  exact ⟨hv, by rw [State.afterRead, hd, hv]⟩

theorem length_range (i : Instr) : i.length = 1 ∨ i.length = 2 ∨ i.length = 3 := by
  unfold Instr.length
  cases i.format <;> simp [Format.length]

/-- Where blocks answer at PC, the fetch leaves only its accesses, as many as the instruction has bytes (R56, R72). -/
theorem fetch_of_peek {s : State} {i : Instr} {b0 b1 b2 : Byte} {rest : List Byte} (h0 : s.peek s.pc = some b0)
    (h1 : s.peek (s.pc + 1) = some b1) (h2 : s.peek (s.pc + 2) = some b2) (hd : decode [b0, b1, b2] = .ok (i, rest)) :
    fetch s = ⟨i, { s with accesses := s.accesses ++
      [BusAccess.read s.pc b0, .read (s.pc + 1) b1, .read (s.pc + 2) b2].take i.length }⟩ := by
  obtain ⟨hv0, hr0⟩ := read_of_peek h0
  obtain ⟨hv1, hr1⟩ := read_of_peek ((peek_afterRead s s.pc _).trans h1)
  obtain ⟨hv2, hr2⟩ := read_of_peek ((peek_afterRead _ (s.pc + 1) _).trans ((peek_afterRead s s.pc _).trans h2))
  rw [fetch_of_decode (by rw [hv0, hv1, hv2, hd]), hr2, hr1, hr0]
  obtain hl | hl | hl := length_range i <;> simp [hl]

/-- Settles O6: with nothing scheduled the step is a `Step`, and `fetch_of_peek` says what its fetch leaves. -/
theorem stepFetchesFromBlocks : Obligations.StepFetchesFromBlocks := by
  intro s i b0 b1 b2 rest hm hs h0 h1 h2 hd
  rw [step_of_schedule_nil hs, perform, stepEvent_running hm, fetch_of_peek (s := s.beginEvent) h0 h1 h2 hd]
  rfl

end Sys2Proof.Laws
end

section
/-! Read-modify-write of memory (R175, R190): the common end of the shifts, INC and DEC, and what it leaves. -/

namespace Sys2Proof.Laws
open Sys2Proof.Machine Sys2Proof.Stated

/-- One read and one write of the effective address, the byte `r` put back, the status `p`, and on to the next instruction. -/
def modifyEnd (m : AddrMode) (base : Nat) (r p : Byte) (s : State) : State :=
  ((((resolve m s).state.afterRead (resolve m s).ea).busWrite (resolve m s).ea r).setP p).finish m.length base

/-- The byte the operand of a read-modify-write holds. -/
def modifyOperand (m : AddrMode) (s : State) : Byte := (resolve m s).state.byteAt (resolve m s).ea

theorem modifyMem_eq (f : Byte → Byte) (m : AddrMode) (base : Nat) (s : State) :
    modifyMem f m base s = modifyEnd m base (f (modifyOperand m s)) (setZN (f (modifyOperand m s)) s.p) s := rfl

theorem shiftMem_eq (f : Byte → Bool → ByteCarry) (m : AddrMode) (base : Nat) (s : State) :
    shift f (.mem m) base s =
      let r := f (modifyOperand m s) (s.flag .c)
      modifyEnd m base r.result (shiftStatus r s.p) s := rfl

section modifyEnd
variable (m : AddrMode) (base : Nat) (r p : Byte) (s : State)

theorem modifyEnd_flag (f : Flag) : (modifyEnd m base r p s).flag f = statusGet p f := rfl

/-- A look at the effective address gives the new byte where RAM answers there (R65). -/
theorem modifyEnd_peek (h : s.ramAt (resolve m s).ea) : (modifyEnd m base r p s).peek (resolve m s).ea = some r := by
  have hram : ((resolve m s).state.afterRead (resolve m s).ea).ramAt (resolve m s).ea :=
    ramAt_of_shape s _ _ ((frame_resolve m s).trans (frame_afterRead _ _)).shape h
  exact peek_busWrite_ram _ _ r hram

theorem modifyEnd_regOf (g : Reg) : regOf (modifyEnd m base r p s) g = regOf s g := by
  cases g <;> simp [regOf, modifyEnd]

theorem runFrame_modifyEnd : RunFrame s (modifyEnd m base r p s) :=
  ((((runFrame_resolve m s).afterRead (resolve m s).ea).busWrite (resolve m s).ea r).setP p).finish m.length base

/-- Of the devices only the byte at the effective address changes. -/
theorem frame_modifyEnd : DevFrame [(resolve m s).ea] s.devices (modifyEnd m base r p s).devices :=
  ((frame_resolve m s).trans (frame_afterRead _ (resolve m s).ea)).trans (frame_busWrite _ (resolve m s).ea r)

theorem modifyEnd_frame (flags : List Flag) (hf : ∀ f, f ∉ flags → statusGet p f = s.flag f) :
    Frame [] flags [(resolve m s).ea] s (modifyEnd m base r p s) :=
  frame_of_runFrame (fun g _ => modifyEnd_regOf m base r p s g) hf (runFrame_modifyEnd m base r p s)
    (frame_modifyEnd m base r p s)

end modifyEnd

/-- Z of a byte given by its number. -/
theorem ofNat_beq_zero {n : Nat} (hn : n < 256) : ((BitVec.ofNat 8 n : Byte) == 0) = decide (n = 0) := by
  rw [Bool.eq_iff_iff]
  simp [BitVec.toNat_eq, Nat.mod_eq_of_lt hn]

/-- N of a byte given by its number. -/
theorem ofNat_bit7 {n : Nat} (hn : n < 256) : (BitVec.ofNat 8 n : Byte).getLsbD 7 = decide (128 ≤ n) := by
  have h : (BitVec.ofNat 8 n : Byte).getLsbD 7 = (BitVec.ofNat 8 n : Byte).msb := rfl
  rw [h, BitVec.msb_eq_decide]
  simp [Nat.mod_eq_of_lt hn]

/-- A row that puts back `r`, which is `f` of the byte read, and sets Z and N from it, modifies its byte by `f`. -/
theorem modifiesByte_of_modifyEnd {row : MemRow} {f : Nat → Nat} {flags : List Flag} {s : State} {more : State → Prop}
    {r p : Byte} (hop : (encode row.instr).head? = some row.opcode)
    (hexec : exec row.instr s = .next (modifyEnd row.mode row.base r p s))
    (hlt : f (modifyOperand row.mode s).toNat < 256) (hr : r = BitVec.ofNat 8 (f (modifyOperand row.mode s).toNat))
    (hz : statusGet p .z = (r == 0)) (hn : statusGet p .n = r.getLsbD 7)
    (hflags : ∀ g, g ∉ flags → statusGet p g = s.flag g)
    (hmore : more (modifyEnd row.mode row.base r p s)) : ModifiesByte row f flags s more := by
  subst hr
  refine ⟨hop, hlt, _, hexec, rfl, ?_, modifyEnd_peek _ _ _ _ s, hz.trans (ofNat_beq_zero hlt), hn.trans (ofNat_bit7 hlt),
    hmore, ?_, rfl, ?_, modifyEnd_frame _ _ _ _ s flags hflags⟩
  · simp [modifyEnd, modifyOperand]
  · simp [modifyEnd]
  · simp [modifyEnd]

/-! ### The rows -/

/-- Each row has its opcode byte, and executing it is `run` on its mode and base cycles. -/
def RowsRun (rows : List MemRow) (run : AddrMode → Nat → State → State) : Prop :=
  ∀ row ∈ rows, (encode row.instr).head? = some row.opcode ∧ ∀ s, exec row.instr s = .next (run row.mode row.base s)

/-- The memory rows of the shifts, and those of INC and DEC, run their shared operation (R176 to R179, R190, R191). -/
theorem modifyRows_run (b : Byte) (w : Addr) :
    (RowsRun (aslRows b w) fun m => shift shiftAsl (.mem m)) ∧ (RowsRun (lsrRows b w) fun m => shift shiftLsr (.mem m)) ∧
    (RowsRun (rolRows b w) fun m => shift shiftRol (.mem m)) ∧ (RowsRun (rorRows b w) fun m => shift shiftRor (.mem m)) ∧
    RowsRun (incRows b w) (modifyMem (· + 1)) ∧ RowsRun (decRows b w) (modifyMem (· - 1)) := by
  refine ⟨?_, ?_, ?_, ?_, ?_, ?_⟩ <;> intro row hrow
  all_goals
    simp only [aslRows, lsrRows, rolRows, rorRows, incRows, decRows, List.mem_cons, List.not_mem_nil, or_false] at hrow
    obtain rfl | rfl | rfl | rfl := hrow
  all_goals exact ⟨rfl, fun _ => rfl⟩

/-! ### INC and DEC -/

/-- Rows that run `modifyMem` of a function that is `g` on numbers modify their byte by `g`, Z and N with it (R190, R191). -/
theorem modifiesByte_of_modifyMem {rows : List MemRow} {f : Byte → Byte} {g : Nat → Nat} (hrun : RowsRun rows (modifyMem f))
    (hlt : ∀ v : Byte, g v.toNat < 256) (hf : ∀ v : Byte, f v = BitVec.ofNat 8 (g v.toNat)) (s : State) :
    ∀ row ∈ rows, ModifiesByte row g [.n, .z] s fun _ => True := by
  intro row hrow
  obtain ⟨hop, hexec⟩ := hrun row hrow
  refine modifiesByte_of_modifyEnd hop ((hexec s).trans (congrArg _ (modifyMem_eq f row.mode row.base s))) (hlt _) (hf _)
    (by simp) (by simp) ?_ trivial
  intro h hh
  simp only [List.mem_cons, List.not_mem_nil, or_false, not_or] at hh
  simp [hh, flag_eq]

/-- Settles O44: the sum and the difference modulo 256, by `modifiesByte_of_modifyMem`. -/
theorem incrementsOfMemory : Obligations.IncrementsOfMemory := by
  intro b w s
  obtain ⟨-, -, -, -, hinc, hdec⟩ := modifyRows_run b w
  constructor
  · exact modifiesByte_of_modifyMem hinc (fun _ => Nat.mod_lt _ (by decide)) (fun v => by bv_omega) s
  · exact modifiesByte_of_modifyMem hdec (fun _ => Nat.mod_lt _ (by decide)) (fun v => by bv_omega) s

/-! ### Shifts and rotates -/

/-- The function `f` on bytes is the rule `g` on numbers (R176 to R179). -/
def Computes (f : Byte → Bool → ByteCarry) (g : ShiftRule) : Prop :=
  ∀ v c, g.result v.toNat c.toNat < 256 ∧ f v c = ⟨BitVec.ofNat 8 (g.result v.toNat c.toNat), g.carry v.toNat⟩

theorem computes_of_toNat {f : Byte → Bool → ByteCarry} {g : ShiftRule}
    (hr : ∀ v c, (f v c).result.toNat = g.result v.toNat c.toNat) (hc : ∀ v c, (f v c).carry = g.carry v.toNat) :
    Computes f g := by
  intro v c
  refine ⟨hr v c ▸ (f v c).result.isLt, ?_⟩
  rw [← hr, ← hc, BitVec.ofNat_toNat, BitVec.setWidth_eq]

/-- Bit 7 of a byte by its number. -/
theorem bit7_eq (v : Byte) : v.getLsbD 7 = decide (128 ≤ v.toNat) := by
  simpa using ofNat_bit7 v.isLt

/-- Bit 0 of a byte by its number. -/
theorem bit0_eq (v : Byte) : v.getLsbD 0 = decide (v.toNat % 2 = 1) := by
  simp [BitVec.getLsbD, Nat.testBit_zero]

theorem toNat_shiftLeft_one (v : Byte) : (v <<< 1).toNat = v.toNat * 2 % 256 := by
  simp [BitVec.toNat_shiftLeft, Nat.shiftLeft_eq]

theorem toNat_shiftRight_one (v : Byte) : (v >>> 1).toNat = v.toNat / 2 := by
  simp [Nat.shiftRight_eq_div_pow]

theorem shiftAsl_computes : Computes shiftAsl aslRule :=
  computes_of_toNat (fun v _ => toNat_shiftLeft_one v) (fun v _ => bit7_eq v)

theorem shiftLsr_computes : Computes shiftLsr lsrRule :=
  computes_of_toNat (fun v _ => toNat_shiftRight_one v) (fun v _ => bit0_eq v)

/-- The old carry enters the bit 0 that the shift left clear (R178). -/
theorem shiftRol_computes : Computes shiftRol rolRule := by
  refine computes_of_toNat (fun v c => ?_) (fun v _ => bit7_eq v)
  cases c with
  | false => simpa [shiftRol, rolRule] using toNat_shiftLeft_one v
  | true =>
    have hshift : (v <<< 1).toNat = 2 ^ 1 * (v.toNat % 128) := by
      rw [toNat_shiftLeft_one]
      omega
    calc ((v <<< 1) ||| 0x01 : Byte).toNat = 2 ^ 1 * (v.toNat % 128) ||| 1 := by rw [BitVec.toNat_or, hshift]; rfl
      _ = 2 ^ 1 * (v.toNat % 128) + 1 := (Nat.two_pow_add_eq_or_of_lt (by decide) _).symm
      _ = v.toNat * 2 % 256 + 1 := by omega

/-- The old carry enters the bit 7 that the shift right left clear (R179). -/
theorem shiftRor_computes : Computes shiftRor rorRule := by
  refine computes_of_toNat (fun v c => ?_) (fun v _ => bit0_eq v)
  cases c with
  | false => simpa [shiftRor, rorRule] using toNat_shiftRight_one v
  | true =>
    have hlt : v.toNat / 2 < 2 ^ 7 := by omega
    calc ((v >>> 1) ||| 0x80 : Byte).toNat = 2 ^ 7 * 1 ||| v.toNat / 2 := by
          rw [BitVec.toNat_or, toNat_shiftRight_one, Nat.or_comm]
          rfl
      _ = 2 ^ 7 * 1 + v.toNat / 2 := (Nat.two_pow_add_eq_or_of_lt hlt 1).symm
      _ = v.toNat / 2 + 1 * 128 := by omega

/-- Rows that run a shift on memory, which is the rule `g` on numbers, shift their byte by it (R175). -/
theorem shiftsByte_of_shift {rows : List MemRow} {f : Byte → Bool → ByteCarry} {g : ShiftRule}
    (hrun : RowsRun rows fun m => shift f (.mem m)) (hfg : Computes f g) (s : State) : ∀ row ∈ rows, ShiftsByte row g s := by
  intro row hrow
  obtain ⟨hop, hexec⟩ := hrun row hrow
  obtain ⟨hlt, hf⟩ := hfg (modifyOperand row.mode s) (s.flag .c)
  refine modifiesByte_of_modifyEnd (f := fun v => g.result v (s.flag .c).toNat) hop
    ((hexec s).trans (congrArg _ (shiftMem_eq f row.mode row.base s))) hlt (by rw [hf]) (by simp) (by simp) ?_ ?_
  · intro h hh
    simp only [List.mem_cons, List.not_mem_nil, or_false, not_or] at hh
    simp [hh, flag_eq]
  · show State.flag _ .c = g.carry (modifyOperand row.mode s).toNat
    simp [modifyEnd_flag, hf]

/-- Settles O43: each shift is its rule on numbers, and `shiftsByte_of_shift` says what a row makes of it. -/
theorem shiftsOfMemory : Obligations.ShiftsOfMemory := by
  intro b w s
  obtain ⟨hasl, hlsr, hrol, hror, -, -⟩ := modifyRows_run b w
  exact ⟨shiftsByte_of_shift hasl shiftAsl_computes s, shiftsByte_of_shift hlsr shiftLsr_computes s,
    shiftsByte_of_shift hrol shiftRol_computes s, shiftsByte_of_shift hror shiftRor_computes s⟩

end Sys2Proof.Laws
end

section
/-! The accesses an instruction makes, with the bytes they store (R71, R72). `Stores st s t` ties the two: the writes appended to the
accesses on the way from `s` to `t` go to the addresses `st`, in order, and no byte of a device changes but at these. -/

namespace Sys2Proof.Laws
open Sys2Proof.Machine Sys2Proof.Stated

/-- The address an access writes to. -/
def writtenAddr : BusAccess → Option Addr
  | .write a _ => some a
  | .read _ _ => none

/-- Between `s` and `t` the core made accesses whose writes go to `st`, in order, and the devices changed at `st` only. -/
def Stores (st : List Addr) (s t : State) : Prop :=
  (∃ l, t.accesses = s.accesses ++ l ∧ l.filterMap writtenAddr = st) ∧ DevFrame st s.devices t.devices

theorem Stores.refl (s : State) : Stores [] s s := ⟨⟨[], by simp, rfl⟩, .refl _ _⟩

theorem Stores.trans {st su : List Addr} {s t u : State} (h : Stores st s t) (g : Stores su t u) : Stores (st ++ su) s u := by
  obtain ⟨⟨l, hl, hst⟩, hd⟩ := h
  obtain ⟨⟨m, hm, hsu⟩, gd⟩ := g
  exact ⟨⟨l ++ m, by rw [hm, hl, List.append_assoc], by rw [List.filterMap_append, hst, hsu]⟩, hd.trans gd⟩

/-- Where no access writes, none has an address it writes to. -/
theorem filterMap_writtenAddr_eq_nil {l : List BusAccess} : l.filterMap writtenAddr = [] ↔ ∀ a v, .write a v ∉ l := by
  rw [List.filterMap_eq_nil_iff]
  constructor
  · intro h a v hmem
    exact Option.some_ne_none a (h _ hmem)
  · intro h e he
    cases e with
    | read => rfl
    | write a v => exact absurd he (h a v)

/-- An operation that makes reads only stores nothing. -/
theorem stores_of_reads {s t : State} (h : ∃ l, t.accesses = s.accesses ++ l ∧ ∀ a v, BusAccess.write a v ∉ l)
    (hd : DevFrame [] s.devices t.devices) : Stores [] s t := by
  obtain ⟨l, hl, hw⟩ := h
  exact ⟨⟨l, hl, filterMap_writtenAddr_eq_nil.mpr hw⟩, hd⟩

theorem stores_resolve (m : AddrMode) (s : State) : Stores [] s (resolve m s).state :=
  stores_of_reads (resolve_accesses m s) (frame_resolve m s)

theorem stores_fetch (src : Source) (s : State) : Stores [] s (src.fetch s).state :=
  stores_of_reads (fetch_accesses src s) (frame_fetch src s)

section combinators
variable {st : List Addr} {s u : State} (h : Stores st s u)
include h

/-- An update of the core makes no access and changes no device. -/
theorem Stores.core {t : State} (ha : t.accesses = u.accesses) (hd : t.devices = u.devices) : Stores st s t := by
  unfold Stores
  rwa [ha, hd]

theorem Stores.afterRead (a : Addr) : Stores st s (u.afterRead a) := by
  have hr : Stores [] u (u.afterRead a) := ⟨⟨_, rfl, rfl⟩, frame_afterRead u a⟩
  simpa using h.trans hr

theorem Stores.busWrite (a : Addr) (v : Byte) : Stores (st ++ [a]) s (u.busWrite a v) :=
  h.trans ⟨⟨_, rfl, rfl⟩, frame_busWrite u a v⟩

theorem Stores.push (v : Byte) : Stores (st ++ [stackAddr u.sp]) s (u.push v) := (h.busWrite (stackAddr u.sp) v).core rfl rfl

theorem Stores.pushWord (w : Addr) : Stores (st ++ [stackAddr u.sp] ++ [stackAddr (u.sp - 1)]) s (u.pushWord w) :=
  (h.push (highByte w)).push (lowByte w)

theorem Stores.pull : Stores st s u.pull.state := (h.core (t := u.setSp (u.sp + 1)) rfl rfl).afterRead _

theorem Stores.pullWord : Stores st s u.pullWord.state := h.pull.pull

end combinators

/-- Interrupt entry stores the three stack bytes (R251). -/
theorem stores_intSeq (s : State) (vec : Addr) :
    Stores [stackAddr s.sp, stackAddr (s.sp - 1), stackAddr (s.sp - 2)] s (s.intSeq vec) := by
  have h2 : s.sp - 1 - 1 = s.sp - 2 := by bv_omega
  obtain ⟨-, -, -, hacc, -⟩ := intSeq_entered s vec
  exact ⟨⟨_, hacc, rfl⟩, h2 ▸ frame_intSeq s vec⟩

/-- RTI makes three reads (R243). -/
theorem stores_returnFromInterrupt (s : State) : Stores [] s s.returnFromInterrupt := by
  have hp : Stores [] s (s.pull.state.setP s.pull.value) := (Stores.refl s).pull.core rfl rfl
  exact hp.pullWord.core rfl rfl

/-- A read-modify-write stores at its effective address. -/
theorem stores_modifyEnd (m : AddrMode) (base : Nat) (r p : Byte) (s : State) :
    Stores [(resolve m s).ea] s (modifyEnd m base r p s) :=
  (((stores_resolve m s).afterRead (resolve m s).ea).busWrite (resolve m s).ea r).core rfl rfl

theorem stores_branch (cond : Bool) (d : Byte) (s : State) : Stores [] s (branch cond d s) := by
  cases cond <;> exact (Stores.refl s).core rfl rfl

theorem stores_breakInstr (s : State) : ∃ st, Stores st s (breakInstr s) := by
  have hpc : Stores [] s (s.setPc (s.pc + 2)) := (Stores.refl s).core rfl rfl
  unfold breakInstr
  dsimp only
  split
  · exact ⟨_, hpc.core rfl rfl⟩
  · exact ⟨_, (hpc.trans (stores_intSeq _ irqVector)).core rfl rfl⟩

/-- The mnemonics that store. -/
theorem mayStore_of_mem {i : Instr} (hm : i.mnemonic ∈ [.STA, .STX, .STY, .INC, .DEC, .PHA, .PHP, .JSR, .BRK]) :
    mayStore i = true := by
  unfold mayStore
  revert hm
  cases i.mnemonic <;> simp

/-- A shift stores when it is no accumulator form (R175). -/
theorem mayStore_of_shift {i : Instr} (hm : i.mnemonic ∈ [.ASL, .LSR, .ROL, .ROR]) (hf : i.format ≠ .acc) :
    mayStore i = true := by
  unfold mayStore
  revert hm
  cases i.mnemonic <;> simp [hf]

/-- Each shared operation stores where its writes go, and nowhere when its mnemonic is none that stores. -/
theorem runsAs_stores {i : Instr} {s t : State} (h : RunsAs i s t) : ∃ st, Stores st s t ∧ (mayStore i = false → st = []) := by
  have hs := Stores.refl s
  cases h
  case lda src _ _ _ _ | ldx src _ _ _ _ | ldy src _ _ _ _ | adc src _ _ _ _ | sbc src _ _ _ _ | compare src _ _ _ _ |
      logic src _ _ _ _ | bit src _ _ _ _ =>
    exact ⟨[], (stores_fetch src s).core rfl rfl, fun _ => rfl⟩
  case jump m _ _ _ => exact ⟨[], (stores_resolve m s).core rfl rfl, fun _ => rfl⟩
  case shiftAcc | loadA | loadX | loadY | txs | flag | nop | invalid => exact ⟨[], hs.core rfl rfl, fun _ => rfl⟩
  case branch cond d _ => exact ⟨[], stores_branch cond d s, fun _ => rfl⟩
  case pla | plp => exact ⟨[], hs.pull.core rfl rfl, fun _ => rfl⟩
  case rts => exact ⟨[], hs.pullWord.core rfl rfl, fun _ => rfl⟩
  case rti => exact ⟨[], (stores_returnFromInterrupt s).core rfl rfl, fun _ => rfl⟩
  case store v m _ hm _ _ =>
    exact ⟨_, ((stores_resolve m s).busWrite (resolve m s).ea v).core rfl rfl, by simp [mayStore_of_mem (i := i) (by aesop)]⟩
  case modifyMem m _ hm _ _ =>
    exact ⟨_, stores_modifyEnd m _ _ _ s, by simp [mayStore_of_mem (i := i) (by aesop)]⟩
  case shiftMem m _ hm hf _ _ => exact ⟨_, stores_modifyEnd m _ _ _ s, by simp [mayStore_of_shift hm hf]⟩
  case jsr hm => exact ⟨_, (hs.pushWord (s.pc + 2)).core rfl rfl, by simp [mayStore_of_mem (i := i) (by aesop)]⟩
  case push v hm _ => exact ⟨_, (hs.push v).core rfl rfl, by simp [mayStore_of_mem (i := i) (by aesop)]⟩
  case brk hm =>
    obtain ⟨st, hst⟩ := stores_breakInstr s
    exact ⟨st, hst, by simp [mayStore_of_mem (i := i) (by aesop)]⟩

/-- Settles O21: `RunFrame` for the core, and `runsAs_stores` for the accesses and the bytes. -/
theorem nonStoringInstructionsKeepMemory : Obligations.NonStoringInstructionsKeepMemory := by
  intro i s t h
  have hr := exec_runFrame h
  obtain ⟨st, ⟨⟨l, hl, hst⟩, hd⟩, hno⟩ := runsAs_stores (runsAs_of_exec h)
  refine ⟨⟨hr.mode, hr.config, hr.schedule, hd.shape⟩, l, hl, ?_, ?_⟩
  · intro hi
    obtain rfl := hno hi
    exact ⟨hd.memorySame, filterMap_writtenAddr_eq_nil.mp hst⟩
  · subst hst
    exact hd.memorySame

end Sys2Proof.Laws
end

section
/-! Interrupt entry and RTI on a stack in RAM (R65, R243, R251, R261): what entry leaves in the three stack bytes, and what RTI makes
of them. -/

namespace Sys2Proof.Laws
open Sys2Proof.Machine

theorem stackAddr_injective {p q : Byte} (h : stackAddr p = stackAddr q) : p = q := by
  simpa [stackAddr] using congrArg lowByte h

/-- A byte pushed to RAM is found where SP pointed (R65, R220). -/
theorem peek_push_self {s : State} {v : Byte} {a : Addr} (ha : a = stackAddr s.sp) (h : s.ramAt a) :
    (s.push v).peek a = some v := by
  subst ha
  exact peek_busWrite_ram s _ v h

/-- A push changes no look at another address. -/
theorem peek_push_other {s : State} {v : Byte} {a : Addr} (h : a ≠ stackAddr s.sp) : (s.push v).peek a = s.peek a :=
  (frame_push s v).peek a (by simpa using h)

theorem ramAt_push {s : State} {a : Addr} (v : Byte) (h : s.ramAt a) : (s.push v).ramAt a :=
  ramAt_of_shape s _ a (frame_push s v).shape h

/-- What interrupt entry stores is found after it as after its three pushes: setting I and reading the vector store nothing. -/
theorem peek_intSeq (s : State) (vec a : Addr) : (s.intSeq vec).peek a = ((s.pushWord s.pc).push s.p).peek a :=
  (frame_readPair ((s.pushWord s.pc).push s.p) vec (vec + 1)).peek a (by simp)

/-- Interrupt entry leaves PC high, PC low and P in the three stack bytes, where these are RAM (R251). -/
theorem peek_intSeq_stack {s : State} (vec : Addr) (h0 : s.ramAt (stackAddr s.sp)) (h1 : s.ramAt (stackAddr (s.sp - 1)))
    (h2 : s.ramAt (stackAddr (s.sp - 2))) :
    (s.intSeq vec).peek (stackAddr s.sp) = some (highByte s.pc) ∧
    (s.intSeq vec).peek (stackAddr (s.sp - 1)) = some (lowByte s.pc) ∧
    (s.intSeq vec).peek (stackAddr (s.sp - 2)) = some s.p := by
  have e2 : s.sp - 2#8 = s.sp - 1#8 - 1#8 := by bv_omega
  have n01 : stackAddr s.sp ≠ stackAddr (s.sp - 1) := fun h => by have := stackAddr_injective h; bv_omega
  have n02 : stackAddr s.sp ≠ stackAddr (s.sp - 1 - 1) := fun h => by have := stackAddr_injective h; bv_omega
  have n12 : stackAddr (s.sp - 1) ≠ stackAddr (s.sp - 1 - 1) := fun h => by have := stackAddr_injective h; bv_omega
  simp only [peek_intSeq, State.pushWord]
  refine ⟨?_, ?_, ?_⟩
  · rw [peek_push_other (by simpa using n02), peek_push_other (by simpa using n01), peek_push_self rfl h0]
  · rw [peek_push_other (by simpa using n12), peek_push_self (by simp) (ramAt_push _ h1)]
  · rw [peek_push_self (by simp [e2]) (ramAt_push _ (ramAt_push _ h2))]

/-- A pull gives the byte that a look finds above SP (R221). -/
theorem pull_value_of_peek {s : State} {v : Byte} (h : s.peek (stackAddr (s.sp + 1)) = some v) : s.pull.value = v :=
  (peek_read s.devices _ v h).1

/-- A pull changes no look at any address (R56). -/
@[simp] theorem peek_pull (s : State) (a : Addr) : s.pull.state.peek a = s.peek a := (frame_pull s).peek a (by simp)

@[simp] theorem peek_setP (s : State) (v : Byte) (a : Addr) : (s.setP v).peek a = s.peek a := rfl

/-- A word is pulled low byte first, from the two bytes above SP. -/
theorem pullWord_value_of_peek {s : State} {lo hi : Byte} (hlo : s.peek (stackAddr (s.sp + 1)) = some lo)
    (hhi : s.peek (stackAddr (s.sp + 1 + 1)) = some hi) : s.pullWord.value = wordOf hi lo := by
  have hl : s.pull.value = lo := pull_value_of_peek hlo
  have hh : s.pull.state.pull.value = hi := pull_value_of_peek ((peek_pull s _).trans hhi)
  rw [State.pullWord, hl, hh]

/-- RTI takes P, PC low and PC high from the three bytes above SP, where a look finds them (R243). -/
theorem returnFromInterrupt_of_peek {s : State} {p lo hi : Byte} (hp : s.peek (stackAddr (s.sp + 1)) = some p)
    (hlo : s.peek (stackAddr (s.sp + 1 + 1)) = some lo) (hhi : s.peek (stackAddr (s.sp + 1 + 1 + 1)) = some hi) :
    s.returnFromInterrupt.p = p ∧ s.returnFromInterrupt.pc = wordOf hi lo := by
  have hv : s.pull.value = p := pull_value_of_peek hp
  have hw : (s.pull.state.setP p).pullWord.value = wordOf hi lo :=
    pullWord_value_of_peek (s := s.pull.state.setP p) (by simpa using hlo) (by simpa using hhi)
  simp [State.returnFromInterrupt, hv, hw]

/-- Settles O60: entry leaves P and PC in the stack bytes (`peek_intSeq_stack`), and RTI takes them from there. -/
theorem rtiUndoesInterruptEntry : Obligations.RtiUndoesInterruptEntry := by
  intro s vec h0 h1 h2 u hsp hpeek
  obtain ⟨k0, k1, k2⟩ := peek_intSeq_stack vec h0 h1 h2
  rw [intSeq_sp] at hsp
  have e1 : u.sp + 1 = s.sp - 2 := by bv_omega
  have e2 : u.sp + 1 + 1 = s.sp - 1 := by bv_omega
  have e3 : u.sp + 1 + 1 + 1 = s.sp := by bv_omega
  obtain ⟨hp, hpc⟩ : u.returnFromInterrupt.p = s.p ∧ u.returnFromInterrupt.pc = wordOf (highByte s.pc) (lowByte s.pc) := by
    apply returnFromInterrupt_of_peek
    · rw [e1, hpeek _ (by simp), k2]
    · rw [e2, hpeek _ (by simp), k1]
    · rw [e3, hpeek _ (by simp), k0]
  rw [wordOf_high_low] at hpc
  refine ⟨u.returnFromInterrupt.setCycles 6, rfl, hp, hpc, ?_, ?_, ?_, ?_⟩
  · simpa [State.returnFromInterrupt] using e3
  · simp [State.returnFromInterrupt]
  · simp [State.returnFromInterrupt]
  · simp [State.returnFromInterrupt]

end Sys2Proof.Laws
end

section
/-! Decoder and encoder (R90 to R104). `decode_eq_ok_iff` says what the decoder reads: an opcode byte and as many operand bytes as
its length counts, given to the opcode map. `encode_decodeOp` says that the encoder writes the same bytes, and `exists_decodeOp_eq`
that every well-formed instruction stands in the map; the two round trips follow. -/

namespace Sys2Proof.Laws
open Sys2Proof.Machine Sys2Proof.Stated

/-! ### What the opcode map reads -/

/-- The encoding of what the map reads is the opcode byte and the operand bytes its length counts (R93, R96, R98). -/
theorem encode_decodeOp (op b1 b2 : Byte) : encode (decodeOp op b1 b2) = [op, b1, b2].take (opcodeLength op) := by
  have hmap : encode (decodeOp op b1 b2) =
      match opcodeLength op with
      | 1 => [op]
      | 2 => [op, b1]
      | _ => [op, lowByte (wordOf b2 b1), highByte (wordOf b2 b1)] := by
    revert op
    apply forall_byte
    intro n hn
    interval_cases n <;> rfl
  rw [hmap, lowByte_wordOf, highByte_wordOf]
  obtain hl | hl | hl := opcodeLength_range op <;> simp [hl]

theorem head?_encode_decodeOp (op b1 b2 : Byte) : (encode (decodeOp op b1 b2)).head? = some op := by
  rw [encode_decodeOp]
  obtain hl | hl | hl := opcodeLength_range op <;> simp [hl]

/-- The map reads well-formed instructions only: the bytes it leaves to `invalid` are the ones R100 lists. -/
theorem decodeOp_wf (op b1 b2 : Byte) : (decodeOp op b1 b2).wf = true := by
  have hop : ∀ op : Byte, (decodeOp op 0 0).wf = true := by decide +kernel
  have hoperands : (decodeOp op b1 b2).wf = (decodeOp op 0 0).wf := by
    unfold decodeOp
    split <;> rfl
  exact hoperands.trans (hop op)

/-- A word operand is put together again from its two bytes (R93), whatever instruction `f` it belongs to. -/
theorem eq_apply_word {f : Addr → Instr} {w : Addr} {i : Instr} (h : i = f (wordOf (highByte w) (lowByte w))) : i = f w := by
  rwa [wordOf_high_low] at h

/-- Every well-formed instruction stands in the map, at the bytes of its own encoding; an operand byte it does not have may be
any. -/
theorem exists_decodeOp_eq {i : Instr} (h : i.wf = true) : ∃ op b1 b2, decodeOp op b1 b2 = i := by
  refine ⟨(encode i).getD 0 0, (encode i).getD 1 0, (encode i).getD 2 0, ?_⟩
  cases i
  all_goals dsimp only [encode, List.getD_cons_zero, List.getD_cons_succ, List.getD_nil]
  case invalid op => exact (decodeOp_invalid op (by simpa [Instr.wf] using h)).1
  case ldaAbs | ldaAbsx | ldaAbsy | ldxAbs | ldxAbsy | ldyAbs | ldyAbsx | staAbs | staAbsx | staAbsy | stxAbs | styAbs | adcAbs |
      adcAbsx | adcAbsy | sbcAbs | sbcAbsx | sbcAbsy | cmpAbs | cmpAbsx | cmpAbsy | cpxAbs | cpyAbs | andAbs | andAbsx |
      andAbsy | oraAbs | oraAbsx | oraAbsy | eorAbs | eorAbsx | eorAbsy | bitAbs | aslAbs | aslAbsx | lsrAbs | lsrAbsx |
      rolAbs | rolAbsx | rorAbs | rorAbsx | incAbs | incAbsx | decAbs | decAbsx | jmpAbs | jmpInd | jsr =>
    exact eq_apply_word rfl
  all_goals rfl

/-! ### The round trips -/

/-- What the decoder reads from a list of bytes (R90, R96, R97). -/
theorem decode_eq_ok_iff {bytes rest : List Byte} {i : Instr} :
    decode bytes = .ok (i, rest) ↔
      ∃ op b1 b2, i = decodeOp op b1 b2 ∧ bytes = [op, b1, b2].take (opcodeLength op) ++ rest := by
  constructor
  · intro h
    match bytes with
    | [] => simp [decode] at h
    | op :: r =>
      obtain hl | hl | hl := opcodeLength_range op
      · exact ⟨op, 0, 0, by simp_all [decode]⟩
      · match r with
        | [] => simp [decode, hl] at h
        | b1 :: r => exact ⟨op, b1, 0, by simp_all [decode]⟩
      · match r with
        | [] | [_] => simp [decode, hl] at h
        | b1 :: b2 :: r => exact ⟨op, b1, b2, by simp_all [decode]⟩
  · rintro ⟨op, b1, b2, rfl, rfl⟩
    rw [decodeOp_operands]
    obtain hl | hl | hl := opcodeLength_range op <;> simp [decode, hl]

/-- Settles O1: the instruction stands in the map, and the decoder reads the bytes the encoder writes for it. -/
theorem decodeOfEncodeIsIdentity : Obligations.DecodeOfEncodeIsIdentity := by
  intro i rest hwf
  obtain ⟨op, b1, b2, rfl⟩ := exists_decodeOp_eq hwf
  exact decode_eq_ok_iff.mpr ⟨op, b1, b2, rfl, by rw [encode_decodeOp]⟩

/-- Settles O2: what the decoder reads stands in the map, and the encoder writes back the bytes taken. -/
theorem encodeOfDecodeIsIdentity : Obligations.EncodeOfDecodeIsIdentity := by
  intro bytes rest i h
  obtain ⟨op, b1, b2, rfl, rfl⟩ := decode_eq_ok_iff.mp h
  exact ⟨decodeOp_wf op b1 b2, by rw [encode_decodeOp]⟩

/-- Settles O4: each word is read by the opcode map as it stands. -/
theorem sampleWordsDecode : Obligations.SampleWordsDecode :=
  ⟨rfl, rfl, rfl, rfl, rfl, rfl, rfl, rfl, rfl, rfl, rfl, rfl⟩

/-! ### The invalid opcodes -/

theorem mnemonic_eq_INVALID {i : Instr} (h : i.mnemonic = .INVALID) : ∃ op, i = .invalid op := by
  cases i
  case invalid op => exact ⟨op, rfl⟩
  all_goals nomatch h

/-- An invalid opcode looks at no operand byte (R100). -/
theorem decodeOp_of_mem_invalidOpcodes {op : Byte} (h : op ∈ invalidOpcodes) (b1 b2 : Byte) :
    decodeOp op b1 b2 = .invalid op := by
  obtain ⟨hop, hl⟩ := decodeOp_invalid op h
  rw [decodeOp_operands, hl]
  exact hop

/-- The bytes of R100 are the ones the map reads as INVALID: the byte an `invalid` carries is the opcode byte read
(`head?_encode_decodeOp`), and it is one of the list (`decodeOp_wf`). -/
theorem mem_invalidOpcodes_of_mnemonic {op b1 b2 : Byte} (h : (decodeOp op b1 b2).mnemonic = .INVALID) :
    op ∈ invalidOpcodes := by
  obtain ⟨op', hi⟩ := mnemonic_eq_INVALID h
  have hwf := decodeOp_wf op b1 b2
  have hhead := head?_encode_decodeOp op b1 b2
  rw [hi] at hwf hhead
  obtain rfl : op' = op := Option.some.inj hhead
  simpa [Instr.wf] using hwf

theorem nodup_invalidOpcodes : invalidOpcodes.Nodup := by decide +kernel

/-- Settles O3: the opcode alone gives the length (`decodeOp_length`); a byte of the list reads as INVALID, and no other does. -/
theorem opcodeMapIsTotal : Obligations.OpcodeMapIsTotal := by
  refine ⟨rfl, nodup_invalidOpcodes, fun op b1 b2 => ?_⟩
  have hread (h : op ∈ invalidOpcodes) := decodeOp_of_mem_invalidOpcodes h b1 b2
  have hmem : (decodeOp op b1 b2).mnemonic = .INVALID → op ∈ invalidOpcodes := mem_invalidOpcodes_of_mnemonic
  exact ⟨decodeOp_length op b1 b2, ⟨hread, fun h => hmem (by rw [h]; rfl)⟩, ⟨fun h => by rw [hread h]; rfl, hmem⟩,
    fun h => (decodeOp_invalid op h).2⟩

/-- Settles O57: the report, PC and the cycle count are all the invalid-opcode handler writes (R244). -/
theorem invalidOpcodeSkipsOneByte : Obligations.InvalidOpcodeSkipsOneByte := by
  intro op s _
  have hrun : RunFrame s (((s.emitReport s.pc op).setPc (s.pc + 1)).setCycles 0) :=
    (((RunFrame.refl s).emitReport _ _).setPc _).setCycles _
  refine ⟨rfl, _, rfl, rfl, by simp [BitVec.toNat_add], rfl, rfl, rfl, ?_⟩
  exact frame_of_runFrame (fun r _ => by cases r <;> rfl) (fun _ _ => rfl) hrun (.refl _ _)

end Sys2Proof.Laws
end

section
/-! The addressing modes (R110 to R124): where each mode's effective address lies as a number, when it crosses a page, and the two
reads an indirect mode makes; then the operand of a read (R128) and JMP (R209, R210). -/

namespace Sys2Proof.Laws
open Sys2Proof.Machine Sys2Proof.Stated

/-! ### Addresses as numbers -/

@[simp] theorem toNat_zeroPage (b : Byte) : (zeroPage b).toNat = b.toNat := by
  simp [zeroPage, toNat_wordOf]

theorem zeroPage_eq_ofNat (b : Byte) : zeroPage b = BitVec.ofNat 16 b.toNat := by
  rw [← toNat_zeroPage, BitVec.ofNat_toNat, BitVec.setWidth_eq]

@[simp] theorem toNat_indexOf (b : Byte) : (indexOf b).toNat = b.toNat :=
  BitVec.toNat_setWidth_of_le (by decide)

theorem add_one_eq_ofNat (w : Addr) : w + 1 = BitVec.ofNat 16 (w.toNat + 1) := by
  simp [BitVec.ofNat_add]

/-- An index register is added modulo 65536 (R117). -/
theorem toNat_add_indexOf (w : Addr) (x : Byte) : (w + indexOf x).toNat = (w.toNat + x.toNat) % 65536 := by
  rw [BitVec.toNat_add, toNat_indexOf]

/-- A page is crossed when the page numbers differ (R124). -/
theorem pageCrossed_iff (base ea : Addr) : pageCrossed base ea = true ↔ ea.toNat / 256 ≠ base.toNat / 256 := by
  rw [pageCrossed, bne_iff_ne, ne_eq, BitVec.toNat_eq, toNat_highByte, toNat_highByte]

/-! ### Pointers -/

@[simp] theorem toNat_readPair_value (s : State) (l h : Addr) :
    (s.readPair l h).value.toNat = ((s.afterRead l).byteAt h).toNat * 256 + (s.byteAt l).toNat :=
  toNat_wordOf _ _

/-- A word is read low byte first, whatever the two addresses (D16). -/
@[simp] theorem readPair_accesses (s : State) (l h : Addr) :
    (s.readPair l h).state.accesses = s.accesses ++ [.read l (s.byteAt l), .read h ((s.afterRead l).byteAt h)] := by
  simp [State.readPair]

/-- The second byte of a zero-page pointer: at the next address, from page 0 where `ZP_PTR_WRAP` holds (R119). -/
theorem read16ZP_eq (s : State) (p : Byte) :
    s.read16ZP p = s.readPair (BitVec.ofNat 16 p.toNat)
      (BitVec.ofNat 16 (if s.config.zpPtrWrap then (p.toNat + 1) % 256 else p.toNat + 1)) := by
  unfold State.read16ZP
  rw [zeroPage_eq_ofNat (p + 1), BitVec.toNat_add, add_one_eq_ofNat, toNat_zeroPage, zeroPage_eq_ofNat p]
  cases s.config.zpPtrWrap <;> rfl

/-- The second byte of JMP's pointer: at the next address, from the pointer's own page where `JMP_IND_PAGE_WRAP` holds (R123). -/
theorem read16Page_eq (s : State) (w : Addr) :
    s.read16Page w = s.readPair w (BitVec.ofNat 16
      (if s.config.jmpIndPageWrap then w.toNat / 256 * 256 + (w.toNat % 256 + 1) % 256 else w.toNat + 1)) := by
  have hwrap : wordOf (highByte w) (lowByte w + 1) = BitVec.ofNat 16 (w.toNat / 256 * 256 + (w.toNat % 256 + 1) % 256) := by
    have := w.isLt
    apply BitVec.eq_of_toNat_eq
    rw [toNat_wordOf, toNat_highByte, BitVec.toNat_add, toNat_lowByte, BitVec.toNat_ofNat]
    exact (Nat.mod_eq_of_lt (by omega)).symm
  unfold State.read16Page
  rw [hwrap, add_one_eq_ofNat]
  cases s.config.jmpIndPageWrap <;> rfl

/-! ### The modes -/

/-- Settles O27: an index is added to the operand byte before the page is put on, so the sum wraps (R114, R115). -/
theorem zeroPageModesResolve : Obligations.ZeroPageModesResolve := by
  intro b s
  refine ⟨fun m hm => ?_, toNat_zeroPage b, ?_, ?_⟩
  · simp only [List.mem_cons, List.not_mem_nil, or_false] at hm
    rcases hm with rfl | rfl | rfl <;> exact ⟨rfl, rfl, rfl⟩
  · exact (toNat_zeroPage _).trans (BitVec.toNat_add b s.x)
  · exact (toNat_zeroPage _).trans (BitVec.toNat_add b s.y)

/-- Settles O28: with no index the page is the operand's own; with one the test is that of R124. -/
theorem absoluteModesResolve : Obligations.AbsoluteModesResolve := by
  intro w s
  refine ⟨fun m hm => ?_, rfl, toNat_add_indexOf w s.x, toNat_add_indexOf w s.y⟩
  simp only [List.mem_cons, List.not_mem_nil, or_false] at hm
  rcases hm with rfl | rfl | rfl
  · exact ⟨rfl, rfl, by simp [resolve]⟩
  · exact ⟨rfl, rfl, pageCrossed_iff w _⟩
  · exact ⟨rfl, rfl, pageCrossed_iff w _⟩

/-- Settles O29, from what the reads of a zero-page pointer are (`read16ZP_eq`). -/
theorem indirectModesResolve : Obligations.IndirectModesResolve := by
  intro b s hiAddr at16
  refine ⟨?_, ?_⟩
  · have hp : (b + s.x).toNat = (b.toNat + s.x.toNat) % 256 := BitVec.toNat_add b s.x
    rw [resolve, read16ZP_eq, hp]
    exact ⟨toNat_readPair_value s _ _, rfl, rfl⟩
  · rw [resolve, read16ZP_eq]
    exact ⟨by rw [toNat_add_indexOf, toNat_readPair_value], by rw [pageCrossed_iff, toNat_readPair_value], rfl⟩

/-! ### The operand of a read -/

/-- Reads leave all that a frame speaks of (R128). -/
theorem OnlyBus.frame {addrs : List Addr} {s t : State} (h : OnlyBus s t) (hd : DevFrame addrs s.devices t.devices) :
    Frame [] [] addrs s t := by
  have hrun := h.runFrame hd
  unfold OnlyBus at h
  exact frame_of_runFrame (fun r _ => by rw [h]; cases r <;> rfl) (fun f _ => by rw [h]; rfl) hrun hd

/-- Settles O30: `Source.fetch` is one read in the state the resolver leaves (R128), or none for the immediate (R112). -/
theorem operandIsReadOnce : Obligations.OperandIsReadOnce := fun _ m s =>
  have hframe := (fetch_onlyBus (.mem m) s).frame (frame_fetch (.mem m) s)
  ⟨rfl, rfl, rfl, rfl, rfl, rfl, rfl, hframe, fetch_pc (.mem m) s⟩

/-! ### JMP -/

/-- PC and the cycle count are no part of a frame. -/
theorem jump_frame (m : AddrMode) (base : Nat) (s : State) : Frame [] [] [] s (jump m base s) :=
  (resolve_onlyBus m s).frame (frame_resolve m s)

/-- Settles O47, the indirect form from what the reads of its pointer are (`read16Page_eq`). -/
theorem jumpsLoadPc : Obligations.JumpsLoadPc := by
  intro w s
  refine ⟨⟨rfl, _, rfl, rfl, rfl, ⟨rfl, rfl, rfl⟩, jump_frame (.abs w) 3 s⟩, ?_⟩
  intro hiAddr lo hi
  have hjump : jump (.ind w) 5 s = ((s.readPair w hiAddr).state.setPc (s.readPair w hiAddr).value).setCycles 5 := by
    rw [jump, resolve, read16Page_eq]
  have hframe := jump_frame (.ind w) 5 s
  refine ⟨rfl, jump (.ind w) 5 s, rfl, ?_⟩
  rw [hjump] at hframe ⊢
  exact ⟨toNat_readPair_value s w hiAddr, rfl, rfl, readPair_accesses s w hiAddr, rfl, hframe⟩

end Sys2Proof.Laws
end

section
/-! Loads, stores and transfers (R130 to R142). `Loads r v s t` is `r <- v; SetZN(v)` (R150) and nothing else: a load does it in
the state its operand read leaves, a transfer in the state itself; both then step past the instruction. A store is one Bus write
in the state the resolver leaves. -/

namespace Sys2Proof.Laws
open Sys2Proof.Machine Sys2Proof.Stated

/-! ### Frames -/

theorem OnlyBus.trans {s t u : State} (h : OnlyBus s t) (g : OnlyBus t u) : OnlyBus s u := by
  unfold OnlyBus at h g ⊢
  rw [h] at g
  exact g

/-- Where nothing changed on the way from `s` to `t`, the frame of what follows is the frame of the whole. -/
theorem frame_of_unchanged {regs : List Reg} {flags : List Flag} {stores : List Addr} {s t u : State} (h : Frame [] [] [] s t)
    (g : Frame regs flags stores t u) : Frame regs flags stores s u := by
  obtain ⟨hreg, hflag, hmode, hconfig, hschedule, hplatform, hmem⟩ := h
  obtain ⟨greg, gflag, gmode, gconfig, gschedule, gplatform, gmem⟩ := g
  refine ⟨fun r hr => (greg r hr).trans (hreg r (by simp)), fun f hf => (gflag f hf).trans (hflag f (by simp)),
    gmode.trans hmode, gconfig.trans hconfig, gschedule.trans hschedule, gplatform.trans hplatform, fun c hc => ?_⟩
  obtain ⟨hstored, hpeek⟩ := hmem c (by simp)
  obtain ⟨gstored, gpeek⟩ := gmem c hc
  exact ⟨fun k => (gstored k).trans (hstored k), gpeek.trans hpeek⟩

/-! ### A register and its flags -/

/-- `t` is `s` after `r <- v; SetZN(v)` (R150), PC and outputs as before. -/
structure Loads (r : Reg) (v : Byte) (s t : State) : Prop where
  reg   : regOf t r = v
  z     : t.flag .z = (v == 0)
  n     : t.flag .n = v.getLsbD 7
  pc    : t.pc = s.pc
  quiet : Quiet s t
  frame : Frame [r] [.n, .z] [] s t

/-- A register update whose status is that of `SetZN` loads the register. -/
theorem loads_of_setZN {r : Reg} {v : Byte} {s t : State} (hr : regOf t r = v) (hother : ∀ g, g ≠ r → regOf t g = regOf s g)
    (hp : t.p = setZN v s.p) (hpc : t.pc = s.pc) (hq : Quiet s t) (hrun : RunFrame s t) : Loads r v s t := by
  have hflag (f : Flag) (hf : f ∉ [Flag.n, .z]) : t.flag f = s.flag f := by
    simp only [List.mem_cons, List.not_mem_nil, or_false, not_or] at hf
    simp [flag_eq, hp, hf]
  have hd : t.devices = s.devices := hq.1
  exact ⟨hr, by simp [flag_eq, hp], by simp [flag_eq, hp], hpc, hq,
    frame_of_runFrame (fun g hg => hother g (by simpa using hg)) hflag hrun (hd ▸ .refl _ _)⟩

theorem loads_loadA (s : State) (v : Byte) : Loads .a v s (s.loadA v) :=
  loads_of_setZN rfl (fun g hg => by cases g <;> simp_all [regOf]) rfl rfl ⟨rfl, rfl, rfl⟩ ((RunFrame.refl s).loadA v)

theorem loads_loadX (s : State) (v : Byte) : Loads .x v s (s.loadX v) :=
  loads_of_setZN rfl (fun g hg => by cases g <;> simp_all [regOf]) rfl rfl ⟨rfl, rfl, rfl⟩ ((RunFrame.refl s).loadX v)

theorem loads_loadY (s : State) (v : Byte) : Loads .y v s (s.loadY v) :=
  loads_of_setZN rfl (fun g hg => by cases g <;> simp_all [regOf]) rfl rfl ⟨rfl, rfl, rfl⟩ ((RunFrame.refl s).loadY v)

/-- A one-byte instruction that loads a register and then steps on (R137 to R141, R192 to R195). -/
theorem registerOp_of_loads {i : Instr} {opcode : Byte} {r : Reg} {v : Byte} {s u : State} (henc : encode i = [opcode])
    (hexec : exec i s = .next (u.finish 1 2)) (h : Loads r v s u) : RegisterOp i opcode r v s :=
  ⟨henc, _, hexec, h.reg, h.z, h.n, by simp [h.pc], rfl, h.quiet, h.frame⟩

/-- A row that loads a register in the state its operand read leaves, and then steps on (R131 to R133, R171 to R173). -/
theorem writesRegister_of_loads {row : ReadRow} {r : Reg} {v : Byte} {s u : State}
    (hop : (encode row.instr).head? = some row.opcode)
    (hexec : exec row.instr s = .next (u.finish row.src.length (row.base + (row.src.fetch s).crossed.toNat)))
    (h : Loads r v (row.src.fetch s).state u) : WritesRegister row r v s := by
  obtain ⟨hd, ha, hreport⟩ := h.quiet
  have hread : Frame [] [] [] s (row.src.fetch s).state := (fetch_onlyBus row.src s).frame (frame_fetch row.src s)
  exact ⟨hop, _, hexec, h.reg, h.z, h.n, ⟨by simp [h.pc], rfl, hd, ha, by simp [hreport]⟩,
    frame_of_unchanged hread h.frame⟩

/-! ### Loads -/

/-- Each row has its opcode byte, and executing it is `run` on its operand and base cycles. -/
def ReadRowsRun (rows : List ReadRow) (run : Source → Nat → State → State) : Prop :=
  ∀ row ∈ rows, (encode row.instr).head? = some row.opcode ∧ ∀ s, exec row.instr s = .next (run row.src row.base s)

theorem loadRows_run (v b : Byte) (w : Addr) :
    ReadRowsRun (ldaRows v b w) lda ∧ ReadRowsRun (ldxRows v b w) ldx ∧ ReadRowsRun (ldyRows v b w) ldy := by
  refine ⟨?_, ?_, ?_⟩ <;> intro row hrow <;> fin_cases hrow
  all_goals exact ⟨rfl, fun _ => rfl⟩

/-- Settles O31: each row runs its load (`loadRows_run`), which ends as `writesRegister_of_loads` says. -/
theorem loadsWriteTheirRegister : Obligations.LoadsWriteTheirRegister := by
  intro v b w s
  obtain ⟨hlda, hldx, hldy⟩ := loadRows_run v b w
  refine ⟨fun row hrow => ?_, fun row hrow => ?_, fun row hrow => ?_⟩
  · obtain ⟨hop, hexec⟩ := hlda row hrow
    exact writesRegister_of_loads hop (hexec s) (loads_loadA _ _)
  · obtain ⟨hop, hexec⟩ := hldx row hrow
    exact writesRegister_of_loads hop (hexec s) (loads_loadX _ _)
  · obtain ⟨hop, hexec⟩ := hldy row hrow
    exact writesRegister_of_loads hop (hexec s) (loads_loadY _ _)

/-! ### Stores -/

theorem storeRows_run (b : Byte) (w : Addr) :
    RowsRun (staRows b w) sta ∧ RowsRun (stxRows b w) stx ∧ RowsRun (styRows b w) sty := by
  refine ⟨?_, ?_, ?_⟩ <;> intro row hrow <;> fin_cases hrow
  all_goals exact ⟨rfl, fun _ => rfl⟩

/-- A look at the effective address gives the byte stored where RAM answers there (R65). -/
theorem store_peek {v : Byte} {m : AddrMode} {base : Nat} {s : State} (h : s.ramAt (resolve m s).ea) :
    (store v m base s).peek (resolve m s).ea = some v :=
  peek_busWrite_ram _ _ v (ramAt_of_shape s _ _ (frame_resolve m s).shape h)

/-- Resolver and Bus write leave the core alone, and of the devices all but the byte at the effective address. -/
theorem store_frame (v : Byte) (m : AddrMode) (base : Nat) (s : State) :
    Frame [] [] [(resolve m s).ea] s (store v m base s) :=
  ((resolve_onlyBus m s).trans (.busWrite _ (resolve m s).ea v)).frame
    ((frame_resolve m s).trans (frame_busWrite _ (resolve m s).ea v))

/-- Rows that run `store` of the byte `v` store it (R134 to R136). -/
theorem storesByte_of_store {rows : List MemRow} {run : AddrMode → Nat → State → State} {v : Byte} {s : State}
    (hrun : RowsRun rows run) (hstore : ∀ m base, run m base s = store v m base s) : ∀ row ∈ rows, StoresByte row v s := by
  intro row hrow
  obtain ⟨hop, hexec⟩ := hrun row hrow
  exact ⟨hop, store v row.mode row.base s, (hexec s).trans (congrArg _ (hstore _ _)), rfl, rfl, store_peek, by simp [store],
    rfl, by simp [store], store_frame v row.mode row.base s⟩

/-- Settles O32: each row runs `store` of its register (`storeRows_run`), and `storesByte_of_store` says what that is. -/
theorem storesWriteTheirByte : Obligations.StoresWriteTheirByte := by
  intro b w s
  obtain ⟨hsta, hstx, hsty⟩ := storeRows_run b w
  exact ⟨storesByte_of_store hsta fun _ _ => rfl, storesByte_of_store hstx fun _ _ => rfl,
    storesByte_of_store hsty fun _ _ => rfl⟩

/-! ### Transfers -/

/-- TXS writes SP and no flag (R142). -/
theorem txs_frame (s : State) : Frame [.sp] [] [] s ((s.setSp s.x).finish 1 2) :=
  frame_of_runFrame (fun g hg => by cases g <;> simp_all [regOf]) (fun _ _ => rfl)
    (((RunFrame.refl s).setSp s.x).finish 1 2) (.refl _ _)

/-- Settles O33: five transfers load their register; TXS moves SP alone. -/
theorem transfersCopyTheirRegister : Obligations.TransfersCopyTheirRegister := by
  intro s
  refine ⟨?_, ?_, ?_, ?_, ?_, rfl, _, rfl, rfl, rfl, rfl, ⟨rfl, rfl, rfl⟩, txs_frame s⟩
  · exact registerOp_of_loads rfl rfl (loads_loadX s s.a)
  · exact registerOp_of_loads rfl rfl (loads_loadY s s.a)
  · exact registerOp_of_loads rfl rfl (loads_loadA s s.x)
  · exact registerOp_of_loads rfl rfl (loads_loadA s s.y)
  · exact registerOp_of_loads rfl rfl (loads_loadX s s.sp)

end Sys2Proof.Laws
end

section
/-! Addition, subtraction and compare on numbers (R152 to R163). In binary mode a subtraction is the addition of the complement
(R157), carry and overflow included. In decimal mode each digit is corrected to its value modulo 10 (R155, R158), so on BCD operands
the result is the BCD code of the value modulo 100. -/

namespace Sys2Proof.Laws
open Sys2Proof.Machine Sys2Proof.Stated

/-- The rows of ADC and SBC have the opcode bytes of the map (R98). -/
theorem arithRow_opcode {v b : Byte} {w : Addr} {row : ReadRow} (h : row ∈ adcRows v b w ++ sbcRows v b w) :
    (encode row.instr).head? = some row.opcode := by
  fin_cases h <;> rfl

/-! ### Binary mode -/

theorem adc_binary (src : Source) (base : Nat) (s : State) (hd : s.flag .d = false) :
    adc src base s =
      let m := (src.fetch s).value
      let r := addBin s.a m (s.flag .c)
      arithEnd src base (overflowAdd s.a m r.result) r s := by
  simp [adc, hd, arithEnd]

theorem sbc_binary (src : Source) (base : Nat) (s : State) (hd : s.flag .d = false) :
    sbc src base s =
      let m := (src.fetch s).value
      let r := subBin s.a m (s.flag .c)
      arithEnd src base (overflowSub s.a m r.result) r s := by
  simp [sbc, hd, arithEnd]

theorem toNat_addBin (a m : Byte) (cin : Bool) :
    (addBin a m cin).result.toNat = (a.toNat + m.toNat + cin.toNat) % 256 := BitVec.toNat_ofNat _ _

theorem addBin_carry (a m : Byte) (cin : Bool) :
    (addBin a m cin).carry = decide (255 < a.toNat + m.toNat + cin.toNat) := rfl

theorem toInt_eq_ite (v : Byte) : v.toInt = if 128 ≤ v.toNat then (v.toNat : Int) - 256 else v.toNat := by
  rw [BitVec.toInt_eq_toNat_cond]
  split <;> split <;> omega

/-- V of an addition by signs: neither operand has the sign of the result (R152). -/
theorem overflowAdd_iff (a m r : Byte) :
    overflowAdd a m r = true ↔ (128 ≤ a.toNat ↔ r.toNat < 128) ∧ (128 ≤ m.toNat ↔ r.toNat < 128) := by
  rw [overflowAdd, BitVec.getLsbD_and, BitVec.getLsbD_xor, BitVec.getLsbD_xor, bit7_eq, bit7_eq, bit7_eq]
  simp only [Bool.and_eq_true, Bool.xor_iff_ne, ne_eq, decide_eq_decide]
  omega

/-- V of an addition is set exactly when the signed sum does not fit in a byte. -/
theorem overflowAdd_addBin (a m : Byte) (cin : Bool) :
    overflowAdd a m (addBin a m cin).result =
      decide (a.toInt + m.toInt + (cin.toNat : Int) < -128 ∨ 127 < a.toInt + m.toInt + (cin.toNat : Int)) := by
  have ha := a.isLt
  have hm := m.isLt
  have hc := cin.toNat_le
  rw [Bool.eq_iff_iff, overflowAdd_iff, toNat_addBin, toInt_eq_ite, toInt_eq_ite, decide_eq_true_iff]
  split <;> split <;> omega

/-- `SubBin` adds the complement (R157). -/
theorem subBin_eq_addBin (a m : Byte) (cin : Bool) : subBin a m cin = addBin a (~~~m) cin := rfl

theorem toNat_complement (m : Byte) : (~~~m).toNat = 255 - m.toNat := BitVec.toNat_not

theorem toInt_complement (m : Byte) : (~~~m).toInt = -1 - m.toInt := by
  have hm := m.isLt
  rw [toInt_eq_ite, toInt_eq_ite, toNat_complement]
  split <;> split <;> omega

/-- V of a subtraction is V of adding the complement: `a` and `m` differ in sign where the complement of `m` agrees with `a`. -/
theorem overflowSub_eq_overflowAdd (a m r : Byte) : overflowSub a m r = overflowAdd a (~~~m) r := by
  simp only [overflowSub, overflowAdd, BitVec.getLsbD_and, BitVec.getLsbD_xor, BitVec.getLsbD_not]
  cases a.getLsbD 7 <;> cases m.getLsbD 7 <;> cases r.getLsbD 7 <;> rfl

/-- The result of a subtraction is the difference less the borrow, modulo 256 (R157). -/
theorem toNat_subBin (a m : Byte) (cin : Bool) :
    ((subBin a m cin).result.toNat : Int) = ((a.toNat : Int) - m.toNat - (1 - (cin.toNat : Int))) % 256 := by
  have hm := m.isLt
  rw [subBin_eq_addBin, toNat_addBin, toNat_complement]
  omega

/-- The carry of a subtraction is set exactly when nothing is borrowed (R157). -/
theorem subBin_carry (a m : Byte) (cin : Bool) :
    (subBin a m cin).carry = decide (0 ≤ (a.toNat : Int) - m.toNat - (1 - (cin.toNat : Int))) := by
  have hm := m.isLt
  rw [subBin_eq_addBin, addBin_carry, toNat_complement, decide_eq_decide]
  omega

/-- V of a subtraction: the overflow of adding the complement is that of the signed difference (R152). -/
theorem overflowSub_subBin (a m : Byte) (cin : Bool) :
    overflowSub a m (subBin a m cin).result =
      decide (a.toInt - m.toInt - (1 - (cin.toNat : Int)) < -128 ∨ 127 < a.toInt - m.toInt - (1 - (cin.toNat : Int))) := by
  rw [overflowSub_eq_overflowAdd, subBin_eq_addBin, overflowAdd_addBin, toInt_complement, decide_eq_decide]
  omega

/-- Settles O34: a row runs `adc`, which ends in `arithEnd` of `addBin`. -/
theorem adcAddsInBinary : Obligations.AdcAddsInBinary := by
  intro v b w s hd row hrow
  refine ⟨arithRow_opcode (List.mem_append_left _ hrow), _, exec_adcRow hrow s, ?_⟩
  rw [adc_binary row.src row.base s hd]
  obtain ⟨-, hc, hv, hz, hn, hread, hframe⟩ := arithEnd_spec row _ (addBin s.a (row.src.fetch s).value (s.flag .c)) s
  exact ⟨toNat_addBin _ _ _, hc.trans (addBin_carry _ _ _), hv.trans (overflowAdd_addBin _ _ _), hz, hn, hread, hframe⟩

/-- Settles O35: a row runs `sbc`, which ends in `arithEnd` of `subBin`. -/
theorem sbcSubtractsInBinary : Obligations.SbcSubtractsInBinary := by
  intro v b w s hd row hrow
  refine ⟨arithRow_opcode (List.mem_append_right _ hrow), _, exec_sbcRow hrow s, ?_⟩
  rw [sbc_binary row.src row.base s hd]
  obtain ⟨-, hc, hv, hz, hn, hread, hframe⟩ := arithEnd_spec row _ (subBin s.a (row.src.fetch s).value (s.flag .c)) s
  exact ⟨toNat_subBin _ _ _, hc.trans (subBin_carry _ _ _), hv.trans (overflowSub_subBin _ _ _), hz, hn, hread, hframe⟩

/-! ### Decimal mode -/

theorem isBcd_iff (v : Byte) : isBcd v = true ↔ v.toNat % 16 ≤ 9 ∧ v.toNat / 16 ≤ 9 := by
  simp [isBcd]

/-- Two decimal digits packed in a byte are the BCD code of the number they stand for (R165). -/
theorem bcd_of_digits {hi lo : Nat} (hhi : hi ≤ 9) (hlo : lo ≤ 9) :
    isBcd (BitVec.ofNat 8 (hi * 16 + lo)) = true ∧ dec (BitVec.ofNat 8 (hi * 16 + lo)) = 10 * hi + lo := by
  have h : (BitVec.ofNat 8 (hi * 16 + lo) : Byte).toNat = hi * 16 + lo := Nat.mod_eq_of_lt (by omega)
  rw [isBcd_iff, dec, h]
  omega

/-- The correction of a digit sum is its value modulo 10, since 6 is 16 - 10 (R155). -/
theorem addDigit_correct {n : Nat} (hn : n ≤ 19) : (if n > 9 then (n + 6) % 16 else n) = n % 10 := by
  split <;> omega

/-- The correction of a digit difference is its value modulo 10 (R158). -/
theorem subDigit_correct {n : Int} (hlo : -10 ≤ n) (hhi : n ≤ 9) : (if n < 0 then (n + 10) % 16 else n) = n % 10 := by
  split <;> omega

/-- `AddDec` on BCD operands by its digit sums: each digit is its sum modulo 10, the tens go on as the carry (R155). -/
theorem addDecFormula_digits {a m : Byte} (ha : isBcd a = true) (hm : isBcd m = true) (cin : Bool) :
    let lo := a.toNat % 16 + m.toNat % 16 + cin.toNat
    let hi := a.toNat / 16 + m.toNat / 16 + lo / 10
    addDecFormula a m cin = ⟨BitVec.ofNat 8 (hi % 10 * 16 + lo % 10), decide (9 < hi)⟩ := by
  rw [isBcd_iff] at ha hm
  have hc := cin.toNat_le
  intro lo hi
  have hlo : lo ≤ 19 := by omega
  have hcarry : (if lo > 9 then 1 else 0) = lo / 10 := by split <;> omega
  have hhi : hi ≤ 19 := by omega
  simp only [addDecFormula]
  rw [hcarry, addDigit_correct hlo, addDigit_correct hhi]

/-- On BCD operands `AddDec` gives the BCD code of the sum modulo 100, and the carry when it exceeds 99 (R155). -/
theorem addDecFormula_spec {a m : Byte} (ha : isBcd a = true) (hm : isBcd m = true) (cin : Bool) :
    let sum := dec a + dec m + cin.toNat
    let r := addDecFormula a m cin
    isBcd r.result = true ∧ dec r.result = sum % 100 ∧ r.carry = decide (99 < sum) := by
  intro sum r
  have hr := addDecFormula_digits ha hm cin
  extract_lets lo hi at hr
  have hsum : sum = 10 * hi + lo % 10 := by simp only [sum, dec, hi, lo]; omega
  obtain ⟨hbcd, hdec⟩ := bcd_of_digits (hi := hi % 10) (lo := lo % 10) (by omega) (by omega)
  simp only [r, hr, hdec, hsum, decide_eq_decide]
  exact ⟨hbcd, by omega, by omega⟩

/-- `SubDec` on BCD operands by its digit differences: each digit is its difference modulo 10, the tens go on as the borrow
(R158). -/
theorem subDecFormula_digits {a m : Byte} (ha : isBcd a = true) (hm : isBcd m = true) (cin : Bool) :
    let lo : Int := (a.toNat % 16 : Nat) - (m.toNat % 16 : Nat) - (1 - (cin.toNat : Int))
    let hi : Int := (a.toNat / 16 : Nat) - (m.toNat / 16 : Nat) + lo / 10
    subDecFormula a m cin =
      ⟨BitVec.ofNat 8 ((hi % 10).toNat * 16 + (lo % 10).toNat), decide (0 ≤ hi)⟩ := by
  rw [isBcd_iff] at ha hm
  have hc := cin.toNat_le
  intro lo hi
  have hlo : -10 ≤ lo ∧ lo ≤ 9 := by omega
  have hborrow : (a.toNat / 16 : Nat) - (m.toNat / 16 : Nat) - (if lo < 0 then 1 else 0) = hi := by split <;> omega
  have hhi : -10 ≤ hi ∧ hi ≤ 9 := by omega
  have hnat : (hi % 10).toNat * 16 + (lo % 10).toNat = (hi % 10 * 16 + lo % 10).toNat := by omega
  simp only [subDecFormula]
  rw [hborrow, subDigit_correct hlo.1 hlo.2, subDigit_correct hhi.1 hhi.2, hnat]

/-- On BCD operands `SubDec` gives the BCD code of the difference modulo 100, and the carry when it is not negative (R158). -/
theorem subDecFormula_spec {a m : Byte} (ha : isBcd a = true) (hm : isBcd m = true) (cin : Bool) :
    let diff : Int := (dec a : Int) - dec m - (1 - (cin.toNat : Int))
    let r := subDecFormula a m cin
    isBcd r.result = true ∧ (dec r.result : Int) = diff % 100 ∧ r.carry = decide (0 ≤ diff) := by
  intro diff r
  have hr := subDecFormula_digits ha hm cin
  extract_lets lo hi at hr
  have hdiff : diff = 10 * hi + lo % 10 := by simp only [diff, dec, hi, lo]; omega
  obtain ⟨hbcd, hdec⟩ := bcd_of_digits (hi := (hi % 10).toNat) (lo := (lo % 10).toNat) (by omega) (by omega)
  simp only [r, hr, hdec, hdiff, decide_eq_decide]
  exact ⟨hbcd, by omega, by omega⟩

theorem addDec_of_bcd {a m : Byte} (ha : isBcd a = true) (hm : isBcd m = true) (cfg : Config) (cin : Bool) :
    addDec cfg a m cin = addDecFormula a m cin := by
  simp [addDec, ha, hm]

theorem subDec_of_bcd {a m : Byte} (ha : isBcd a = true) (hm : isBcd m = true) (cfg : Config) (cin : Bool) :
    subDec cfg a m cin = subDecFormula a m cin := by
  simp [subDec, ha, hm]

theorem adc_bcd (src : Source) (base : Nat) (s : State) (hd : s.flag .d = true) (ha : isBcd s.a = true)
    (hm : isBcd (src.fetch s).value = true) :
    adc src base s =
      let m := (src.fetch s).value
      let r := addDecFormula s.a m (s.flag .c)
      arithEnd src base (overflowAdd s.a m r.result) r s := by
  simp only [adc_decimal src base s hd, addDec_of_bcd ha hm]

theorem sbc_bcd (src : Source) (base : Nat) (s : State) (hd : s.flag .d = true) (ha : isBcd s.a = true)
    (hm : isBcd (src.fetch s).value = true) :
    sbc src base s =
      let m := (src.fetch s).value
      let r := subDecFormula s.a m (s.flag .c)
      arithEnd src base (overflowSub s.a m r.result) r s := by
  simp only [sbc_decimal src base s hd, subDec_of_bcd ha hm]

/-- Settles O36: on BCD operands a row ends in `arithEnd` of the spec's formula. -/
theorem adcAddsInDecimal : Obligations.AdcAddsInDecimal := by
  intro v b w s hd ha row hrow m sum hm
  refine ⟨_, exec_adcRow hrow s, ?_⟩
  rw [adc_bcd row.src row.base s hd ha hm]
  obtain ⟨-, hc, hrest⟩ := arithEnd_spec row (overflowAdd s.a m _) (addDecFormula s.a m (s.flag .c)) s
  obtain ⟨hbcd, hdec, hcarry⟩ := addDecFormula_spec ha hm (s.flag .c)
  exact ⟨hbcd, hdec, hc.trans hcarry, hrest⟩

/-- Settles O37: on BCD operands a row ends in `arithEnd` of the spec's formula. -/
theorem sbcSubtractsInDecimal : Obligations.SbcSubtractsInDecimal := by
  intro v b w s hd ha row hrow m diff hm
  refine ⟨_, exec_sbcRow hrow s, ?_⟩
  rw [sbc_bcd row.src row.base s hd ha hm]
  obtain ⟨-, hc, hrest⟩ := arithEnd_spec row (overflowSub s.a m _) (subDecFormula s.a m (s.flag .c)) s
  obtain ⟨hbcd, hdec, hcarry⟩ := subDecFormula_spec ha hm (s.flag .c)
  exact ⟨hbcd, hdec, hc.trans hcarry, hrest⟩

/-! ### Compare -/

theorem compareRows_run (v b : Byte) (w : Addr) :
    ReadRowsRun (cmpRows v b w) compareA ∧ ReadRowsRun (cpxRows v b w) compareX ∧ ReadRowsRun (cpyRows v b w) compareY := by
  refine ⟨?_, ?_, ?_⟩ <;> intro row hrow <;> fin_cases hrow
  all_goals exact ⟨rfl, fun _ => rfl⟩

/-- N, Z and C from the difference, every other flag kept (R160). -/
theorem compareWith_flag (r : Byte) (src : Source) (base : Nat) (s : State) (f : Flag) :
    (compareWith r src base s).flag f =
      let m := (src.fetch s).value
      if f = .n then (r - m).getLsbD 7 else if f = .z then r - m == 0 else if f = .c then decide (m.toNat ≤ r.toNat)
      else s.flag f := by
  simp [compareWith, flag_eq]

theorem compareWith_frame (r : Byte) (src : Source) (base : Nat) (s : State) :
    Frame [] [.n, .z, .c] [] s (compareWith r src base s) := by
  refine frame_of_runFrame (fun g _ => ?_) (fun f hf => ?_) (((runFrame_fetch src s).setP _).finish _ _) (frame_fetch src s)
  · cases g <;> simp [regOf, compareWith]
  · simp only [List.mem_cons, List.not_mem_nil, or_false, not_or] at hf
    simp [compareWith_flag, hf]

theorem compareWith_readEnd (r : Byte) (row : ReadRow) (s : State) :
    ReadEnd row s (compareWith r row.src row.base s) := by
  simp [ReadEnd, compareWith]

/-- The difference is zero exactly when the operands are equal (R163). -/
theorem sub_beq_zero (r m : Byte) : (r - m == 0) = decide (r.toNat = m.toNat) := by
  rw [Bool.eq_iff_iff, beq_iff_eq, decide_eq_true_iff, BitVec.toNat_inj]
  exact sub_eq_zero

/-- N of a compare is bit 7 of the difference modulo 256 (R163). -/
theorem sub_bit7 (r m : Byte) : (r - m).getLsbD 7 = decide (128 ≤ (r.toNat + 256 - m.toNat) % 256) := by
  have hm := m.isLt
  rw [bit7_eq, BitVec.toNat_sub, decide_eq_decide]
  omega

/-- Rows that run `compareWith` of the register value `r` compare it (R160). -/
theorem compares_of_compareWith {rows : List ReadRow} {run : Source → Nat → State → State} {r : Byte} {s : State}
    (hrun : ReadRowsRun rows run) (hcompare : ∀ src base, run src base s = compareWith r src base s) :
    ∀ row ∈ rows, Compares row r s := by
  intro row hrow
  obtain ⟨hop, hexec⟩ := hrun row hrow
  have hflag := compareWith_flag r row.src row.base s
  exact ⟨hop, compareWith r row.src row.base s, (hexec s).trans (congrArg _ (hcompare _ _)), hflag .c,
    (hflag .z).trans (sub_beq_zero r _), (hflag .n).trans (sub_bit7 r _), compareWith_readEnd r row s,
    compareWith_frame r row.src row.base s⟩

/-- Settles O39: each row runs its compare (`compareRows_run`), and `compares_of_compareWith` says what that is. -/
theorem comparesSetNZC : Obligations.ComparesSetNZC := by
  intro v b w s
  obtain ⟨hcmp, hcpx, hcpy⟩ := compareRows_run v b w
  exact ⟨compares_of_compareWith hcmp fun _ _ => rfl, compares_of_compareWith hcpx fun _ _ => rfl,
    compares_of_compareWith hcpy fun _ _ => rfl⟩

end Sys2Proof.Laws
end

section
/-! Logic, bit test and the shifts of the accumulator (R171 to R179). A logic row ends as a load does, with `f A M` for the byte
(`writesRegister_of_loads`); BIT writes the status alone; a shift of the accumulator is its rule on numbers (`Computes`), as on
memory. -/

namespace Sys2Proof.Laws
open Sys2Proof.Machine Sys2Proof.Stated

/-! ### AND, ORA, EOR -/

theorem logicRows_run (v b : Byte) (w : Addr) :
    ReadRowsRun (andRows v b w) (logic (· &&& ·)) ∧ ReadRowsRun (oraRows v b w) (logic (· ||| ·)) ∧
    ReadRowsRun (eorRows v b w) (logic (· ^^^ ·)) := by
  refine ⟨?_, ?_, ?_⟩ <;> intro row hrow <;> fin_cases hrow
  all_goals exact ⟨rfl, fun _ => rfl⟩

/-- Rows that run `logic f` load A with `f A M` in the state their operand read leaves (R171 to R173). -/
theorem writesRegister_of_logic {rows : List ReadRow} {f : Byte → Byte → Byte} (hrun : ReadRowsRun rows (logic f)) (s : State) :
    ∀ row ∈ rows, WritesRegister row .a (f s.a (row.src.fetch s).value) s := by
  intro row hrow
  obtain ⟨hop, hexec⟩ := hrun row hrow
  exact writesRegister_of_loads hop (hexec s) (loads_loadA _ _)

/-- Settles O40: each row runs its operation (`logicRows_run`), and `writesRegister_of_logic` says what that is. -/
theorem logicWritesTheAccumulator : Obligations.LogicWritesTheAccumulator := by
  intro v b w s
  obtain ⟨hand, hora, heor⟩ := logicRows_run v b w
  exact ⟨writesRegister_of_logic hand s, writesRegister_of_logic hora s, writesRegister_of_logic heor s⟩

/-! ### BIT -/

theorem bitRows_run (v b : Byte) (w : Addr) : ReadRowsRun (bitRows v b w) bitTest := by
  intro row hrow
  fin_cases hrow <;> exact ⟨rfl, fun _ => rfl⟩

/-- BIT has no indexed form, so its operand crosses no page (R174). -/
theorem bitRow_not_crossed {v b : Byte} {w : Addr} {row : ReadRow} (h : row ∈ bitRows v b w) (s : State) :
    (row.src.fetch s).crossed = false := by
  fin_cases h <;> rfl

/-- Z from A and M, N and V from M, every other flag kept (R174). -/
theorem bitTest_flag (src : Source) (base : Nat) (s : State) (f : Flag) :
    (bitTest src base s).flag f =
      let m := (src.fetch s).value
      if f = .v then m.getLsbD 6 else if f = .n then m.getLsbD 7 else if f = .z then (s.a &&& m) == 0 else s.flag f := by
  simp [bitTest, flag_eq]

theorem bitTest_frame (src : Source) (base : Nat) (s : State) : Frame [] [.n, .v, .z] [] s (bitTest src base s) := by
  refine frame_of_runFrame (fun g _ => ?_) (fun f hf => ?_) (((runFrame_fetch src s).setP _).finish _ _) (frame_fetch src s)
  · cases g <;> simp [regOf, bitTest]
  · simp only [List.mem_cons, List.not_mem_nil, or_false, not_or] at hf
    simp [bitTest_flag, hf]

theorem bitTest_readEnd {row : ReadRow} {s : State} (hc : (row.src.fetch s).crossed = false) :
    ReadEnd row s (bitTest row.src row.base s) := by
  simp [ReadEnd, bitTest, hc]

/-- Settles O41: a row runs `bitTest`, whose flags are `bitTest_flag`, on an operand that crosses no page. -/
theorem bitTestsTheOperand : Obligations.BitTestsTheOperand := by
  intro v b w s row hrow
  obtain ⟨hop, hexec⟩ := bitRows_run v b w row hrow
  have hflag := bitTest_flag row.src row.base s
  exact ⟨hop, _, hexec s, hflag .z, hflag .n, hflag .v, rfl, bitTest_readEnd (bitRow_not_crossed hrow s),
    bitTest_frame row.src row.base s⟩

/-! ### Shifts and rotates of the accumulator -/

/-- N and Z from the shifted byte, C the bit shifted out, every other flag kept (R175). -/
theorem shiftAcc_flag (f : Byte → Bool → ByteCarry) (base : Nat) (s : State) (g : Flag) :
    (shift f .acc base s).flag g =
      let r := f s.a (s.flag .c)
      if g = .n then r.result.getLsbD 7 else if g = .z then r.result == 0 else if g = .c then r.carry else s.flag g := by
  simp [shift, flag_eq]

theorem shiftAcc_frame (f : Byte → Bool → ByteCarry) (base : Nat) (s : State) :
    Frame [.a] [.n, .z, .c] [] s (shift f .acc base s) := by
  refine frame_of_runFrame (fun r hr => ?_) (fun g hg => ?_) ((((RunFrame.refl s).setA _).setP _).finish _ _) (.refl _ _)
  · cases r <;> simp_all [regOf, shift]
  · simp only [List.mem_cons, List.not_mem_nil, or_false, not_or] at hg
    simp [shiftAcc_flag, hg]

/-- An instruction that runs on the accumulator a shift which is the rule `g` on numbers (R175). -/
theorem shiftsAccumulator_of_shift {i : Instr} {opcode : Byte} {f : Byte → Bool → ByteCarry} {g : ShiftRule} {s : State}
    (henc : encode i = [opcode]) (hexec : exec i s = .next (shift f .acc 2 s)) (hfg : Computes f g) :
    ShiftsAccumulator i opcode g s := by
  obtain ⟨hlt, hf⟩ := hfg s.a (s.flag .c)
  have hflag := shiftAcc_flag f 2 s
  rw [hf] at hflag
  have ha : (shift f .acc 2 s).a.toNat = g.result s.a.toNat (s.flag .c).toNat := by
    simp [shift, hf, Nat.mod_eq_of_lt hlt]
  exact ⟨henc, _, hexec, ha, hflag .c, (hflag .z).trans (ofNat_beq_zero hlt), (hflag .n).trans (ofNat_bit7 hlt), rfl, rfl,
    ⟨rfl, rfl, rfl⟩, shiftAcc_frame f 2 s⟩

/-- Settles O42: each shift is its rule on numbers, and `shiftsAccumulator_of_shift` says what that makes of A. -/
theorem shiftsOfTheAccumulator : Obligations.ShiftsOfTheAccumulator := fun _ =>
  ⟨shiftsAccumulator_of_shift rfl rfl shiftAsl_computes, shiftsAccumulator_of_shift rfl rfl shiftLsr_computes,
    shiftsAccumulator_of_shift rfl rfl shiftRol_computes, shiftsAccumulator_of_shift rfl rfl shiftRor_computes⟩

end Sys2Proof.Laws
end

section
/-! Increments and decrements of registers (R192 to R195). Each loads its register as a transfer does (`registerOp_of_loads`), with a
byte that is the sum or the difference modulo 256. -/

namespace Sys2Proof.Laws
open Sys2Proof.Machine Sys2Proof.Stated

/-- One more modulo 256 (R192, R193). -/
theorem byte_add_one (v : Byte) : v + 1 = BitVec.ofNat 8 (v.toNat + 1) := by bv_omega

/-- One less modulo 256: the step down is 255 up (R194, R195). -/
theorem byte_sub_one (v : Byte) : v - 1 = BitVec.ofNat 8 (v.toNat + 255) := by bv_omega

/-- Settles O45: each loads its register with the sum or difference, by `registerOp_of_loads`. -/
theorem incrementsOfRegisters : Obligations.IncrementsOfRegisters := by
  intro s
  rw [← byte_add_one, ← byte_add_one, ← byte_sub_one, ← byte_sub_one]
  refine ⟨?inx, ?iny, ?dex, ?dey⟩
  case inx => exact registerOp_of_loads rfl rfl (loads_loadX s (s.x + 1))
  case iny => exact registerOp_of_loads rfl rfl (loads_loadY s (s.y + 1))
  case dex => exact registerOp_of_loads rfl rfl (loads_loadX s (s.x - 1))
  case dey => exact registerOp_of_loads rfl rfl (loads_loadY s (s.y - 1))

end Sys2Proof.Laws
end

section
/-! Branches (R200 to R208): the shared operation `branch` taken and not taken, then one row from the flag it tests. -/

namespace Sys2Proof.Laws
open Sys2Proof.Machine Sys2Proof.Stated

theorem branch_not_taken (d : Byte) (s : State) : branch false d s = (s.setPc (s.pc + 2)).setCycles 2 := rfl

theorem branch_taken (d : Byte) (s : State) :
    branch true d s =
      let target := branchTarget (s.pc + 2) d
      (s.setPc target).setCycles (if pageCrossed (s.pc + 2) target then 4 else 3) := rfl

/-- The target lies the signed displacement away from the next instruction, modulo 65536 (R122). -/
theorem toNat_branchTarget (next : Addr) (d : Byte) :
    ((branchTarget next d).toNat : Int) = ((next.toNat : Int) + d.toInt) % 65536 := by
  have hd : ((d.signExtend 16).toNat : Int) = d.toInt % 65536 := by
    rw [BitVec.signExtend, BitVec.toNat_ofInt]
    omega
  rw [branchTarget, BitVec.toNat_add]
  omega

/-- PC and the cycle count are no part of a frame. -/
theorem branch_frame (cond : Bool) (d : Byte) (s : State) : Frame [] [] [] s (branch cond d s) := by
  cases cond <;> exact (OnlyBus.refl s).frame (.refl _ _)

theorem branch_quiet (cond : Bool) (d : Byte) (s : State) : Quiet s (branch cond d s) := by
  cases cond <;> exact ⟨rfl, rfl, rfl⟩

/-- A row that encodes as its opcode and displacement and runs `branch` on `cond` is a branch on `cond` (R200). -/
theorem branches_of_branch {i : Byte → Instr} {opcode : Byte} {cond : State → Bool}
    (henc : ∀ d, encode (i d) = [opcode, d]) (hexec : ∀ d s, exec (i d) s = .next (branch (cond s) d s)) :
    Branches i opcode cond := by
  intro d s next
  have hnext : (s.pc + 2).toNat = next := BitVec.toNat_add s.pc 2
  refine ⟨henc d, _, hexec d s, ?notTaken, ?taken, branch_quiet (cond s) d s, branch_frame (cond s) d s⟩
  case notTaken =>
    intro h
    rw [h, branch_not_taken]
    exact ⟨hnext, rfl⟩
  case taken =>
    intro h
    rw [h, branch_taken, ← hnext]
    exact ⟨toNat_branchTarget _ d, by simp [pageCrossed_iff]⟩

/-- Settles O46: each row runs `branch` on its flag, and `branches_of_branch` says what that is. -/
theorem branchesTestOneFlag : Obligations.BranchesTestOneFlag := by
  refine ⟨?_, ?_, ?_, ?_, ?_, ?_, ?_, ?_⟩
  all_goals exact branches_of_branch (fun _ => rfl) (fun _ _ => rfl)

end Sys2Proof.Laws
end

section
/-! JSR and RTS on a stack in RAM (R65, R211 to R213): what a word pushed leaves in the two stack bytes, and where RTS goes from
there. -/

namespace Sys2Proof.Laws
open Sys2Proof.Machine

theorem callSubroutine_sp (w : Addr) (s : State) : (callSubroutine w s).sp = s.sp - 1 - 1 := rfl

theorem callSubroutine_peek (w : Addr) (s : State) (a : Addr) :
    (callSubroutine w s).peek a = (s.pushWord (s.pc + 2)).peek a := rfl

/-- A word pushed lies with its high byte where SP pointed and its low byte below, where these are RAM (R68). -/
theorem peek_pushWord_stack {s : State} (w : Addr) (h0 : s.ramAt (stackAddr s.sp)) (h1 : s.ramAt (stackAddr (s.sp - 1))) :
    (s.pushWord w).peek (stackAddr s.sp) = some (highByte w) ∧
    (s.pushWord w).peek (stackAddr (s.sp - 1)) = some (lowByte w) := by
  have hne : stackAddr s.sp ≠ stackAddr (s.sp - 1) := fun h => by have := stackAddr_injective h; bv_omega
  rw [State.pushWord]
  constructor
  · rw [peek_push_other hne, peek_push_self rfl h0]
  · exact peek_push_self rfl (ramAt_push _ h1)

/-- RTS goes one past the word in the two bytes above SP, where a look finds them (R212). -/
theorem returnFromSubroutine_pc_of_peek {s : State} {lo hi : Byte} (hlo : s.peek (stackAddr (s.sp + 1)) = some lo)
    (hhi : s.peek (stackAddr (s.sp + 1 + 1)) = some hi) : (returnFromSubroutine s).pc = wordOf hi lo + 1 :=
  congrArg (· + 1) (pullWord_value_of_peek hlo hhi)

/-- Settles O50: JSR leaves the address of its last byte in the stack bytes (`peek_pushWord_stack`), and RTS goes one past it. -/
theorem jsrThenRtsReturns : Obligations.JsrThenRtsReturns := by
  intro w s h0 h1
  obtain ⟨khi, klo⟩ := peek_pushWord_stack (s.pc + 2) h0 h1
  refine ⟨callSubroutine w s, rfl, fun u hsp hhi hlo => ?_⟩
  rw [callSubroutine_sp] at hsp
  have hsp1 : u.sp + 1 = s.sp - 1 := by bv_omega
  have hsp2 : u.sp + 1 + 1 = s.sp := by bv_omega
  rw [callSubroutine_peek, khi, ← hsp2] at hhi
  rw [callSubroutine_peek, klo, ← hsp1] at hlo
  have hpc : (returnFromSubroutine u).pc = s.pc + 3 := by
    rw [returnFromSubroutine_pc_of_peek hlo hhi, wordOf_high_low]
    exact BitVec.add_assoc s.pc 2 1
  exact ⟨returnFromSubroutine u, rfl, hpc, hsp2⟩

end Sys2Proof.Laws
end

section
/-! The stack instructions (R211, R212, R220 to R225, R243): what a push and a pull are on the Bus, what they leave alone, then the
rows that end in them. A word pulled is a pair of reads, low byte first (`pullWord_eq`). -/

namespace Sys2Proof.Laws
open Sys2Proof.Machine Sys2Proof.Stated

/-! ### Addresses and bytes as numbers -/

/-- The stack is page 1 (R25). -/
theorem toNat_stackAddr (p : Byte) : (stackAddr p).toNat = 256 + p.toNat := toNat_wordOf 0x01 p

theorem highByte_eq_ofNat (w : Addr) : highByte w = BitVec.ofNat 8 (w.toNat / 256) := by
  rw [← toNat_highByte, BitVec.ofNat_toNat, BitVec.setWidth_eq]

theorem lowByte_eq_ofNat (w : Addr) : lowByte w = BitVec.ofNat 8 (w.toNat % 256) := by
  rw [← toNat_lowByte, BitVec.ofNat_toNat, BitVec.setWidth_eq]

theorem byte_add_one_one (v : Byte) : v + 1 + 1 = v + 2 := BitVec.add_assoc v 1 1

theorem byte_add_one_two (v : Byte) : v + 1 + 2 = v + 3 := BitVec.add_assoc v 1 2

/-! ### Frames -/

/-- An operation that keeps A, X and Y, and every flag but those listed, moves of the 8-bit registers SP alone. -/
theorem frame_of_sp {flags : List Flag} {stores : List Addr} {s t : State} (ha : t.a = s.a) (hx : t.x = s.x) (hy : t.y = s.y)
    (hf : ∀ f, f ∉ flags → t.flag f = s.flag f) (h : RunFrame s t) (hd : DevFrame stores s.devices t.devices) :
    Frame [.sp] flags stores s t := by
  refine frame_of_runFrame (fun r hr => ?_) hf h hd
  cases r with
  | a => exact ha
  | x => exact hx
  | y => exact hy
  | sp => simp at hr

theorem push_frame (s : State) (v : Byte) : Frame [.sp] [] [stackAddr s.sp] s (s.push v) :=
  frame_of_sp rfl rfl rfl (fun _ _ => rfl) ((RunFrame.refl s).push v) (frame_push s v)

theorem callSubroutine_frame (w : Addr) (s : State) :
    Frame [.sp] [] [stackAddr s.sp, stackAddr (s.sp - 1)] s (callSubroutine w s) :=
  frame_of_sp rfl rfl rfl (fun _ _ => rfl) ((((RunFrame.refl s).pushWord _).setPc _).setCycles _)
    (frame_pushWord s (s.pc + 2))

theorem returnFromSubroutine_frame (s : State) : Frame [.sp] [] [] s (returnFromSubroutine s) :=
  frame_of_sp rfl rfl rfl (fun _ _ => rfl) (((RunFrame.refl s).pullWord.setPc _).setCycles _) (frame_pullWord s)

/-- PLA writes A and SP, Z and N with A (R223). -/
theorem pullA_frame (s : State) : Frame [.a, .sp] [.n, .z] [] s (pullA s) := by
  refine frame_of_runFrame (fun r hr => ?_) (fun f hf => ?_) (((RunFrame.refl s).pull.loadA _).finish _ _) (frame_pull s)
  · cases r <;> simp_all [regOf, pullA]
  · simp only [List.mem_cons, List.not_mem_nil, or_false, not_or] at hf
    simp [pullA, flag_eq, hf]

/-- The eight flags are all there are (R26). -/
theorem mem_allFlags (f : Flag) : f ∈ [Flag.n, .v, .u, .b, .d, .i, .z, .c] := by
  cases f <;> simp

theorem pullP_frame (s : State) : Frame [.sp] [.n, .v, .u, .b, .d, .i, .z, .c] [] s (pullP s) :=
  frame_of_sp rfl rfl rfl (fun f hf => absurd (mem_allFlags f) hf) (((RunFrame.refl s).pull.setP _).finish _ _)
    (frame_pull s)

theorem returnFromInterrupt_frame (s : State) :
    Frame [.sp] [.n, .v, .u, .b, .d, .i, .z, .c] [] s s.returnFromInterrupt :=
  frame_of_sp (by simp [State.returnFromInterrupt]) (by simp [State.returnFromInterrupt]) (by simp [State.returnFromInterrupt])
    (fun f hf => absurd (mem_allFlags f) hf) (runFrame_returnFromInterrupt s) (frame_returnFromInterrupt s)

/-! ### Pulls as reads -/

/-- A word pulled is a pair of reads above SP, low byte first, and SP two more (R221). -/
theorem pullWord_eq (s : State) :
    s.pullWord =
      let w := s.readPair (stackAddr (s.sp + 1)) (stackAddr (s.sp + 2))
      ⟨w.value, w.state.setSp (s.sp + 2)⟩ := by
  rw [← byte_add_one_one]
  rfl

/-- RTI is the read of P and then the pair of reads of PC, SP three more (R243). -/
theorem returnFromInterrupt_eq (s : State) :
    s.returnFromInterrupt =
      let a1 := stackAddr (s.sp + 1)
      let w := (s.afterRead a1).readPair (stackAddr (s.sp + 2)) (stackAddr (s.sp + 3))
      ((w.state.setSp (s.sp + 3)).setP (s.byteAt a1)).setPc w.value := by
  rw [State.returnFromInterrupt, pullWord_eq, setP_sp, pull_sp, byte_add_one_one, byte_add_one_two]
  rfl

/-- A byte pushed to RAM is the next one pulled (R234). -/
theorem pull_value_push {s : State} (v : Byte) (h : s.ramAt (stackAddr s.sp)) : (s.push v).pull.value = v := by
  apply pull_value_of_peek
  rw [push_sp, BitVec.sub_add_cancel]
  exact peek_push_self rfl h

theorem pull_sp_push (s : State) (v : Byte) : (s.push v).pull.state.sp = s.sp := BitVec.sub_add_cancel s.sp 1

/-! ### The rows -/

/-- Settles O48: JSR is `pushWord` of the address of its last byte, whose bytes are its quotient and remainder by 256. -/
theorem jsrPushesItsLastByte : Obligations.JsrPushesItsLastByte := by
  intro w s ret hi lo a1 a2
  have hret : (s.pc + 2).toNat = ret := BitVec.toNat_add s.pc 2
  have hhi : highByte (s.pc + 2) = hi := by rw [highByte_eq_ofNat, hret]
  have hlo : lowByte (s.pc + 2) = lo := by rw [lowByte_eq_ofNat, hret]
  have hsp : s.sp - 1 - 1 = s.sp - 2 := by bv_omega
  refine ⟨rfl, callSubroutine w s, rfl, rfl, hsp, rfl, ?devices, ?accesses, rfl, callSubroutine_frame w s⟩
  case devices =>
    rw [← hhi, ← hlo]
    rfl
  case accesses =>
    rw [← hhi, ← hlo]
    exact List.append_assoc s.accesses [_] [_]

/-- Settles O49: RTS goes one past the pair of reads that `pullWord` is (`pullWord_eq`). -/
theorem rtsAddsOneToTheWholeAddress : Obligations.RtsAddsOneToTheWholeAddress := by
  intro s a1 a2 lo hi
  have hframe := returnFromSubroutine_frame s
  refine ⟨rfl, returnFromSubroutine s, rfl, ?_⟩
  rw [returnFromSubroutine, pullWord_eq] at hframe ⊢
  refine ⟨?pc, rfl, rfl, rfl, readPair_accesses s a1 a2, rfl, hframe⟩
  case pc => rw [setCycles_pc, setPc_pc, BitVec.toNat_add, toNat_readPair_value]; rfl

/-- Settles O51: both rows are a push, of A or of P as it stands. -/
theorem pushesStoreThenDecrement : Obligations.PushesStoreThenDecrement := by
  intro s a1
  refine ⟨toNat_stackAddr s.sp, fun e he => ?_⟩
  obtain ⟨henc, hexec⟩ : encode e.1 = [e.2.1] ∧ exec e.1 s = .next ((s.push e.2.2).finish 1 3) := by
    fin_cases he <;> exact ⟨rfl, rfl⟩
  have hsp : (s.sp - 1).toNat = (s.sp.toNat + 255) % 256 := by rw [byte_sub_one, BitVec.toNat_ofNat]
  exact ⟨henc, _, hexec, hsp, rfl, rfl, peek_push_self rfl, rfl, rfl, rfl, push_frame s e.2.2⟩

/-- Settles O52: both rows are a pull, into A with its flags or into P. -/
theorem pullsIncrementThenRead : Obligations.PullsIncrementThenRead := by
  intro s a1 v
  have ha1 : a1.toNat = 256 + (s.sp.toNat + 1) % 256 := by rw [toNat_stackAddr, BitVec.toNat_add]; rfl
  obtain ⟨ha, hz, hn, -, -, -⟩ := loads_loadA s.pull.state v
  refine ⟨ha1, ?pla, ?plp⟩
  case pla => exact ⟨rfl, pullA s, rfl, ha, hz, hn, rfl, rfl, rfl, rfl, rfl, rfl, pullA_frame s⟩
  case plp => exact ⟨rfl, pullP s, rfl, rfl, rfl, rfl, rfl, rfl, rfl, rfl, pullP_frame s⟩

/-- Settles O53: the byte pulled is the byte pushed (`pull_value_push`), and SP is back (`pull_sp_push`). -/
theorem pushThenPullRestores : Obligations.PushThenPullRestores := by
  intro s h
  constructor
  · exact ⟨_, _, rfl, rfl, pull_value_push s.a h, pull_sp_push s s.a⟩
  · exact ⟨_, _, rfl, rfl, pull_value_push s.p h, pull_sp_push s s.p⟩

/-- Settles O56: RTI is the three reads of `returnFromInterrupt_eq`. -/
theorem rtiPullsStatusThenPc : Obligations.RtiPullsStatusThenPc := by
  intro s a1 a2 a3 s1 s2
  have hframe := returnFromInterrupt_frame s
  refine ⟨rfl, s.returnFromInterrupt.setCycles 6, rfl, ?_⟩
  rw [returnFromInterrupt_eq] at hframe ⊢
  refine ⟨rfl, toNat_readPair_value s1 a2 a3, rfl, rfl, rfl, ?accesses, rfl, hframe⟩
  case accesses => exact (readPair_accesses s1 a2 a3).trans (List.append_assoc s.accesses [_] _)

end Sys2Proof.Laws
end

section
/-! The flag instructions and NOP (R226 to R233): each flag row runs `flagOp`, which writes its flag and steps on. -/

namespace Sys2Proof.Laws
open Sys2Proof.Machine Sys2Proof.Stated

theorem flagOp_flag (f : Flag) (v : Bool) (s : State) (g : Flag) :
    (flagOp f v s).flag g = if g = f then v else s.flag g := by
  simp [flagOp, flag_eq]

theorem flagOp_frame (f : Flag) (v : Bool) (s : State) : Frame [] [f] [] s (flagOp f v s) := by
  refine frame_of_runFrame (fun r _ => by cases r <;> rfl) (fun g hg => ?_) (((RunFrame.refl s).setFlag f v).finish 1 2)
    (.refl _ _)
  rw [flagOp_flag, if_neg (by simpa using hg)]

/-- A one-byte row that runs `flagOp` sets its flag and nothing else. -/
theorem setsFlag_of_flagOp {i : Instr} {opcode : Byte} {f : Flag} {v : Bool} {s : State} (henc : encode i = [opcode])
    (hexec : exec i s = .next (flagOp f v s)) : SetsFlag i opcode f v s :=
  ⟨henc, _, hexec, by rw [flagOp_flag, if_pos rfl], rfl, rfl, ⟨rfl, rfl, rfl⟩, flagOp_frame f v s⟩

/-- PC and the cycle count are no part of a frame. -/
theorem finish_frame (len cyc : Nat) (s : State) : Frame [] [] [] s (s.finish len cyc) := (OnlyBus.refl s).frame (.refl _ _)

/-- Settles O54: the seven flag rows by `setsFlag_of_flagOp`; NOP only steps on. -/
theorem flagInstructionsAndNop : Obligations.FlagInstructionsAndNop := by
  intro s
  refine ⟨?_, ?_, ?_, ?_, ?_, ?_, ?_, ?nop⟩
  case nop => exact ⟨rfl, _, rfl, rfl, rfl, ⟨rfl, rfl, rfl⟩, finish_frame 1 2 s⟩
  all_goals exact setsFlag_of_flagOp rfl rfl

end Sys2Proof.Laws
end

section
/-! The step as a whole: it always runs in `running` (R60, R241, R252, R253, R280), it runs a placed instruction (R104, R240), and
no output of the event before has a part in it (R244, R269, R288). -/

namespace Sys2Proof.Laws
open Sys2Proof.Machine

/-- In `running` the `NMI` event is interrupt entry through 0xFFFA (R252). -/
theorem nmiEvent_running {s : State} (hm : s.mode = .running) : nmiEvent s = .next (s.beginEvent.intSeq nmiVector) := by
  simp only [nmiEvent, hm]

/-- An `NMI` at the head of the schedule, in `running`, is the step. -/
theorem step_of_nmi {s : State} {rest : List Event} (hm : s.mode = .running) (h : s.schedule = .nmi :: rest) :
    step s = .next (({ s.beginEvent with schedule := rest } : State).intSeq nmiVector) :=
  (step_of_schedule h).trans (nmiEvent_running hm)

/-- In `running` every event is enabled, and none stops the machine (R241). -/
theorem step_next_of_running {s : State} (hm : s.mode = .running) : ∃ t, step s = .next t := by
  cases hs : s.schedule with
  | nil => exact step_of_step hm (.inl (by simp [hs])) ▸ exec_next _ _
  | cons e rest =>
    cases e with
    | step => exact step_of_step hm (.inr (by simp [hs])) ▸ exec_next _ _
    | reset => exact ⟨_, step_of_reset hs⟩
    | irq => exact ⟨_, step_of_irq hm hs⟩
    | nmi => exact ⟨_, step_of_nmi hm hs⟩
    | device k data => exact ⟨_, step_of_schedule hs⟩

/-- Settles O7: the next state by `step_next_of_running`, its mode by `step_mode`, its cycle count by that of every instruction. -/
theorem stepNeverStopsWhenRunning : Obligations.StepNeverStopsWhenRunning := by
  intro s hm
  obtain ⟨t, ht⟩ := step_next_of_running hm
  have hmode : t.mode = .running := (step_mode ht).elim (·.trans hm) And.right
  refine ⟨t, ht, hmode, fun hs => ?_⟩
  rw [step_of_step hm hs] at ht
  obtain ⟨n, hn, -⟩ := cycleCountsAreInRange _ _ _ ht
  exact ⟨n, hn⟩

/-- A look at PC and the two addresses after it finds the placed bytes: the three addresses differ, also where they wrap (R50). -/
theorem peek_withFetchWord (s : State) (nbits w : Nat) :
    let t := s.withFetchWord nbits w
    t.peek s.pc = some (tableByte nbits w 0) ∧ t.peek (s.pc + 1) = some (tableByte nbits w 1) ∧
      t.peek (s.pc + 2) = some (tableByte nbits w 2) := by
  intro t
  have hpeek : ∀ c, t.peek c = if c = s.pc + 2 then some (tableByte nbits w 2)
      else if c = s.pc + 1 then some (tableByte nbits w 1) else if c = s.pc then some (tableByte nbits w 0)
      else s.peek c := by
    intro c
    rw [← peek_poke, ← peek_poke, ← peek_poke]
    rfl
  have h01 : s.pc ≠ s.pc + 1 := by bv_omega
  have h02 : s.pc ≠ s.pc + 2 := by bv_omega
  have h12 : s.pc + 1 ≠ s.pc + 2 := by bv_omega
  refine ⟨?_, ?_, ?_⟩
  · rw [hpeek, if_neg h02, if_neg h01, if_pos rfl]
  · rw [hpeek, if_neg h12, if_pos rfl]
  · rw [hpeek, if_pos rfl]

/-- What the table's word decodes to is what the decoder makes of its three bytes (R104). -/
theorem decode_of_decodeTableWord {nbits w : Nat} {i : Instr} (h : decodeTableWord nbits w = some i) :
    ∃ rest, decode [tableByte nbits w 0, tableByte nbits w 1, tableByte nbits w 2] = .ok (i, rest) := by
  unfold decodeTableWord at h
  split at h
  · next j rest hd =>
    cases h
    exact ⟨rest, hd⟩
  · cases h

/-- Settles O8: the placed bytes stand in blocks at PC, so `stepFetchesFromBlocks` says what the step does with them. -/
theorem placedInstructionIsTheNextOneRun : Obligations.PlacedInstructionIsTheNextOneRun := by
  intro s nbits w i h t
  obtain ⟨rest, hd⟩ := decode_of_decodeTableWord h
  obtain ⟨h0, h1, h2⟩ := peek_withFetchWord s nbits w
  exact stepFetchesFromBlocks t i _ _ _ rest rfl rfl h0 h1 h2 hd

/-! ### The outputs of the event before -/

/-- Every event begins by taking the last one's outputs away, and reads none of them (R244, R269, R288). -/
theorem perform_beginEvent (e : Event) (s : State) : perform e s.beginEvent = perform e s := by
  cases e <;> rfl

theorem step_beginEvent (s : State) : step s.beginEvent = step s := by
  cases hs : s.schedule with
  | nil => rw [step_of_schedule_nil hs, step_of_schedule_nil (s := s.beginEvent) hs, perform_beginEvent]
  | cons e rest =>
    rw [step_of_schedule hs, step_of_schedule (s := s.beginEvent) hs]
    exact perform_beginEvent e { s with schedule := rest }

/-- Settles O12: states that differ in outputs alone begin an event as one and the same state. -/
theorem outputsInfluenceNothing : Obligations.OutputsInfluenceNothing :=
  fun s c r l => (step_beginEvent { s with cycles := c, report := r, accesses := l }).symm.trans (step_beginEvent s)

end Sys2Proof.Laws
end

section
/-! BRK, `NMI` and `Reset` as the spec gives them (R242, R252, R280): the first two through interrupt entry (R251). -/

namespace Sys2Proof.Laws
open Sys2Proof.Machine Sys2Proof.Stated

/-- Settles O59: the step is interrupt entry through 0xFFFA. -/
theorem nmiIsUnconditional : Obligations.NmiIsUnconditional := fun _ _ hm hs =>
  ⟨_, step_of_nmi hm hs, intSeq_cycles _ _, intSeq_entered _ _⟩

/-- Settles O13: the fields of `resetEvent`, and of the devices what its two reads leave. -/
theorem resetEventValues : Obligations.ResetEventValues := by
  intro s rest hs lo hi
  have hd := frame_resetEvent { s with schedule := rest }
  exact ⟨_, step_of_reset hs, rfl, rfl, rfl, rfl, rfl, rfl, rfl, rfl, rfl, rfl, rfl, hd.shape, rfl, rfl, hd.memorySame⟩

/-- Masked by I, BRK moves PC and sets B (R242). -/
theorem breakInstr_masked {s : State} (hg : s.config.brkGatedByI = true) (hi : s.flag .i = true) :
    breakInstr s = ((s.setPc (s.pc + 2)).setFlag .b true).setCycles 7 := by
  simp [breakInstr, hg, hi]

/-- Not masked, BRK enters the interrupt from PC + 2 and sets B after it (R242). -/
theorem breakInstr_taken {s : State} (h : s.config.brkGatedByI = false ∨ s.flag .i = false) :
    breakInstr s = (((s.setPc (s.pc + 2)).intSeq irqVector).setFlag .b true).setCycles 7 := by
  obtain h | h := h <;> simp [breakInstr, h]

/-- A flag written joins the flags of the frame. -/
theorem frame_setFlag {regs : List Reg} {flags : List Flag} {stores : List Addr} {s t : State} (h : Frame regs flags stores s t)
    (f : Flag) (v : Bool) : Frame regs (flags ++ [f]) stores s (t.setFlag f v) := by
  obtain ⟨hreg, hflag, hrest⟩ := h
  refine ⟨hreg, fun g hg => ?_, hrest⟩
  rw [List.mem_append, List.mem_singleton, not_or] at hg
  obtain ⟨hmem, hne⟩ := hg
  rw [← hflag g hmem]
  simp [flag_eq, hne]

/-- B set after interrupt entry leaves it interrupt entry, with B among its flags (R242). -/
theorem entered_setFlag_b {vec : Addr} {s t : State} (h : Entered vec [] s t) (n : Nat) :
    Entered vec [.b] s ((t.setFlag .b true).setCycles n) := by
  obtain ⟨hpc, hsp, hdevices, haccesses, hi, hreport, hframe⟩ := h
  refine ⟨hpc, hsp, hdevices, haccesses, ?_, hreport, frame_setFlag hframe .b true⟩
  rw [← hi]
  simp [flag_eq]

/-- Settles O55: masked, BRK only steps on; else it is interrupt entry from PC + 2; B is set last in both. -/
theorem brkRunsTheGatedSequence : Obligations.BrkRunsTheGatedSequence := by
  intro s
  refine ⟨rfl, breakInstr s, rfl, by simp [breakInstr, flag_eq], rfl, fun hg hi => ?masked, fun h => ?taken⟩
  case masked =>
    rw [breakInstr_masked hg hi]
    exact ⟨rfl, ⟨rfl, rfl, rfl⟩, frame_setFlag (finish_frame 2 7 s) .b true⟩
  case taken =>
    rw [breakInstr_taken h]
    exact entered_setFlag_b (intSeq_entered (s.setPc (s.pc + 2)) irqVector) 7

end Sys2Proof.Laws
end
